-- ==== Sys2Proof/Word.lean ====
section
/-! DEFINITION. The words of PSD-FAW: the byte of the wire, the payload stream and the font
(00_scope.md R10, 20_memory.md R50, R53, R54), the 16-bit coordinate and colour (30_encoding.md
R82, R83), the 32-bit payload length and the 128-bit request descriptor (30_encoding.md R103). -/

namespace Sys2Proof

/-- An 8-bit byte, 0..255 (R10). -/
abbrev Byte := BitVec 8

/-- A 16-bit unsigned operand, coordinate or RGB565 colour (R27, R83, R101). -/
abbrev U16 := BitVec 16

/-- A 32-bit unsigned value: PLEN and FAULT_INFO (R27, R32). -/
abbrev U32 := BitVec 32

/-- The request descriptor `req_word` (R103). -/
abbrev ReqWord := BitVec 128

end Sys2Proof
end

