-- ==== Sys2Proof/Config.lean ====
section
/-! DEFINITION. The configuration record CFG of the block: the geometry (00_scope.md R7,
10_state.md R21), the overridable parameters (R8, R9) and the font asset (20_memory.md R54).
CFG is an input of the block, constant for its whole life. State holds it as plain data which no
step writes, so that a statement quantifies over every configuration (notes/assumptions/3). -/

namespace Sys2Proof

/-- An entry of ORIENT_TABLE: "each mapping to a fixed bitmask of vertical-mirror,
horizontal-mirror, and axis-swap flags" (41_control.md R148, 30_encoding.md R96). -/
structure OrientEntry where
  mirrorY  : Bool
  mirrorX  : Bool
  swapAxes : Bool
  deriving DecidableEq, Repr

/-- The byte of an entry: mirror-Y 0x80, mirror-X 0x40, swap-axes 0x20 (R96). -/
def OrientEntry.byte (e : OrientEntry) : Byte :=
  (if e.mirrorY then 0x80#8 else 0#8) ||| (if e.mirrorX then 0x40#8 else 0#8) |||
    (if e.swapAxes then 0x20#8 else 0#8)

/-- The entries of ORIENT_TABLE[0..7] that are parameters (00_scope.md R9, 41_control.md R148,
93_implementation_defined.md G10). Entries 1 and 3 are pinned by the source and are no parameters. -/
structure OrientTable where
  e0 : OrientEntry
  e2 : OrientEntry
  e4 : OrientEntry
  e5 : OrientEntry
  e6 : OrientEntry
  e7 : OrientEntry
  deriving DecidableEq, Repr

/-- Entry 1, pinned to 0x40, mirror-X (R9, R148). -/
def OrientTable.pinned1 : OrientEntry := { mirrorY := false, mirrorX := true, swapAxes := false }

/-- Entry 3, pinned to 0xC0, mirror-X and mirror-Y (R9, R148). -/
def OrientTable.pinned3 : OrientEntry := { mirrorY := true, mirrorX := true, swapAxes := false }

/-- The FONT space (R54): CHAR_WIDTH, START_CODE, GLYPH_HEIGHT and the row bytes
`FONT[g][r] = (glyphs[g])[r]`, every glyph having GLYPH_HEIGHT of them; GLYPH_COUNT is the length of
`glyphs`. -/
structure Font where
  charWidth   : Nat
  startCode   : Nat
  glyphHeight : Nat
  glyphs      : List (Vector Byte glyphHeight)
  deriving DecidableEq, Repr

/-- CFG (R7, R8, R9, R21). `csAssertedLevel` is CS_ASSERTED_LEVEL (R25), `chunkPixels` is
CHUNK_PIXELS (R8), `hasText` is HAS_TEXT and `charBits` is CHAR_BITS (R9, notes/assumptions/20);
`resetCs`, `resetDc` and `resetRst` are the reset levels of PIN.CS, PIN.DC and PIN.RST (R9,
92_eei_decisions.md D5). -/
structure Cfg where
  width           : Nat
  height          : Nat
  xOffset         : Nat
  yOffset         : Nat
  chunkPixels     : Nat
  orientTable     : OrientTable
  initOrientation : Byte
  initBgr         : Bool
  initColorMode   : Byte
  initFillColor   : U16
  csAssertedLevel : Bool
  hasText         : Bool
  charBits        : Nat
  resetCs         : Bool
  resetDc         : Bool
  resetRst        : Bool
  font            : Font
  deriving DecidableEq, Repr

/-- The completed table of R148, the six open entries being decision D14: bit 0 of the orientation
mirror-X, bit 1 mirror-Y, bit 2 swap-axes (DESIGN CHOICE of the spec, notes/assumptions/4). -/
def OrientTable.decided : OrientTable :=
  { e0 := { mirrorY := false, mirrorX := false, swapAxes := false }
    e2 := { mirrorY := true, mirrorX := false, swapAxes := false }
    e4 := { mirrorY := false, mirrorX := false, swapAxes := true }
    e5 := { mirrorY := false, mirrorX := true, swapAxes := true }
    e6 := { mirrorY := true, mirrorX := false, swapAxes := true }
    e7 := { mirrorY := true, mirrorX := true, swapAxes := true } }

/-- The literal 2-glyph 8 by 8 font of the source's scenario (95_test_vectors.md P4, reading (a)):
glyph 0 sets all left-column bits, glyph 1 none (DESIGN CHOICE, notes/assumptions/3). -/
def Font.scenario : Font :=
  { charWidth := 8, startCode := 72, glyphHeight := 8,
    glyphs := [Vector.replicate 8 0x80#8, Vector.replicate 8 0x00#8] }

/-- The configuration the reset state carries: the 240 by 320 panel of the source's scenario with
zero offsets (OPEN in the spec, DESIGN CHOICE, notes/assumptions/3) and the defaults of R8 and R9. -/
def Cfg.scenario : Cfg :=
  { width := 240, height := 320, xOffset := 0, yOffset := 0, chunkPixels := 256,
    orientTable := OrientTable.decided, initOrientation := 0, initBgr := false,
    initColorMode := 0x55, initFillColor := 0x0000, csAssertedLevel := false, hasText := true,
    charBits := 8, resetCs := false, resetDc := true, resetRst := true, font := Font.scenario }

end Sys2Proof
end

