-- ==== Sys2Proof/Syntax.lean ====
section
/-! DEFINITION. The instructions of PSD-FAW: one constructor per row of spec/opcode_table.json
(30_encoding.md R80 to R105), the abstract syntax of a request (R101), and the two encodings in which
an instruction reaches the sequencer: the 128-bit request descriptor (R103) and a frame of the wire
(R81). A payload is not part of a descriptor, only its length PLEN is (R103): the bytes stand in the
state's PAYLOAD stream (20_memory.md R53). -/

namespace Sys2Proof

inductive Instr where
  /-- `software-reset`, 0x01, format WC (R84). -/
  | wireSoftwareReset
  /-- `sleep-in`, 0x10, format WC (R85). -/
  | wireSleepIn
  /-- `sleep-out`, 0x11, format WC (R86). -/
  | wireSleepOut
  /-- `normal-display-on`, 0x13, format WC (R87). -/
  | wireNormalDisplayOn
  /-- `inversion-off`, 0x20, format WC (R88). -/
  | wireInversionOff
  /-- `inversion-on`, 0x21, format WC (R89). -/
  | wireInversionOn
  /-- `display-on`, 0x29, format WC (R90). -/
  | wireDisplayOn
  /-- `memory-write`, 0x2C, format WC (R93). -/
  | wireMemoryWrite
  /-- `column-address-set`, 0x2A, format WC4: physical first and last column (R82, R91). -/
  | wireColumnAddressSet (start stop : U16)
  /-- `row-address-set`, 0x2B, format WC4: physical first and last row (R82, R92). -/
  | wireRowAddressSet (start stop : U16)
  /-- `memory-access-control`, 0x36, format WC1 (R94, R96). -/
  | wireMemoryAccessControl (parameter : Byte)
  /-- `color-mode`, 0x3A, format WC1 (R95, R97). -/
  | wireColorMode (parameter : Byte)
  /-- `pixel-unit`, format WD, one unit (R83). -/
  | wirePixelUnit (red : BitVec 5) (green : BitVec 6) (blue : BitVec 5)
  /-- `sendCommand(opcode, none)` (R121). -/
  | sendCommandCmd (opcode : Byte)
  /-- `sendCommand(opcode, payload)`, `plen` payload bytes (R122). -/
  | sendCommandCmdData (opcode : Byte) (plen : U32)
  /-- `sendCommand(none, payload)`, `plen` payload bytes (R123). -/
  | sendCommandData (plen : U32)
  /-- `sendCommand(none, none)`, refused (R124). -/
  | sendCommandNone
  /-- `setAddressWindow(x0, y0, x1, y1)` (R164). -/
  | setAddressWindow (x0 y0 x1 y1 : U16)
  /-- `drawPixel(x, y, color)` (R165). -/
  | drawPixel (x y color : U16)
  /-- `fillRectangle(x, y, w, h, color)` (R167). -/
  | fillRectangle (x y w h color : U16)
  /-- `fillScreen(color)` (R169). -/
  | fillScreen (color : U16)
  /-- `blitBuffer(buffer, x, y, w, h)`, a buffer of `plen` bytes (R170). -/
  | blitBuffer (x y w h : U16) (plen : U32)
  /-- `hardReset()` (R140). -/
  | hardReset
  /-- `softReset()` (R141). -/
  | softReset
  /-- `setSleep(enabled)` (R142). -/
  | setSleep (enabled : Bool)
  /-- `setInversion(enabled)` (R143). -/
  | setInversion (enabled : Bool)
  /-- `setColorMode(mode)` (R146). -/
  | setColorMode (mode : Byte)
  /-- `setMemoryAccessMode(orientation, isBgr)` (R147). -/
  | setMemoryAccessMode (orientation : Byte) (isBgr : Bool)
  /-- `initialize()` (R190). -/
  | initializePanel
  /-- `drawChar(char, x, y, color)` (R201). -/
  | drawChar (code : Byte) (x y color : U16)
  /-- `drawText(string, x, y, color)`, a string of `plen` codes (R203). -/
  | drawText (plen : U32) (x y color : U16)
  /-- `normalDisplayOn()`, the pseudo-operation `sendCommand(0x13, none)` (R144). -/
  | normalDisplayOn
  /-- `displayOn()`, the pseudo-operation `sendCommand(0x29, none)` (R145). -/
  | displayOn
  /-- A reserved operation code, 0x00 or 0x10..0xFF (R105). -/
  | reserved (op : Byte)
  deriving DecidableEq, Repr

/-- `NonEmptyList Byte` (R101). -/
structure NonEmptyBytes where
  head : Byte
  tail : List Byte
  deriving DecidableEq, Repr

/-- The bytes of a non-empty list, in order. -/
def NonEmptyBytes.toList (p : NonEmptyBytes) : List Byte := p.head :: p.tail

/-- "Abstract syntax of a request, one constructor per operation, with the source's names and
argument order" (R101): coordinates are integers, a mode, an orientation and a character code any
natural number, a payload, a buffer and a string the values themselves. `initialize()` is
`initializePanel` here. -/
inductive Request where
  /-- `sendCommand(opcode?, payload?)`; both absent is refused (40_framing.md R124). -/
  | sendCommand (opcode : Option Byte) (payload : Option NonEmptyBytes)
  | setAddressWindow (x0 y0 x1 y1 : Int)
  | drawPixel (x y : Int) (color : U16)
  | fillRectangle (x y w h : Int) (color : U16)
  | fillScreen (color : U16)
  | blitBuffer (buffer : List Byte) (x y w h : Int)
  | hardReset
  | softReset
  | setSleep (enabled : Bool)
  | setInversion (enabled : Bool)
  | setColorMode (mode : Nat)
  | setMemoryAccessMode (orientation : Nat) (isBgr : Bool)
  | initializePanel
  /-- `drawChar(char, x, y, color)`, HAS_TEXT only. -/
  | drawChar (code : Nat) (x y : Int) (color : U16)
  /-- `drawText(string, x, y, color)`, HAS_TEXT only. -/
  | drawText (string : List Nat) (x y : Int) (color : U16)
  deriving DecidableEq, Repr

/-- "the accepted operation with its operands" (10_state.md R28): a row of the opcode table, or a
request of the abstract syntax. -/
inductive Op where
  | row (i : Instr)
  | call (r : Request)
  deriving DecidableEq, Repr

/-- How an instruction reaches the sequencer: the request port's 128-bit word (R103), or the bytes
of one frame in wire order, each with the data/command level it is sent under, `false` low for
command and `true` high for data (R80, R81; the frame form is the model's own,
notes/assumptions/6). -/
inductive Code where
  | request (w : ReqWord)
  | frame (bytes : List (Bool × Byte))
  deriving DecidableEq, Repr

/-- Why a frame is none of the table's wire rows. -/
inductive DecodeError where
  /-- A one-byte command frame whose opcode is no WC row (R84 to R90, R93). -/
  | notABareCommand (opcode : Byte)
  /-- A command with one parameter byte whose opcode is no WC1 row (R94, R95). -/
  | notAOneParameterCommand (opcode : Byte)
  /-- A color-mode parameter with bit 7 or bit 3 set, which the block never sends (R97). -/
  | colorModeBitsSet (parameter : Byte)
  /-- A command with four payload bytes whose opcode is no WC4 row (R91, R92). -/
  | notAPositionCommand (opcode : Byte)
  /-- Any other shape: none of the four frame formats of R81 with a single pixel unit for WD. -/
  | noSuchFrame
  deriving DecidableEq, Repr

end Sys2Proof
end

