-- ==== Sys2Proof/WellFormed.lean ====
section
/-! DEFINITION. Which instruction terms a code stands for (30_encoding.md R97, R101, R104, R105). -/

namespace Sys2Proof

/-- The checks: a colour-mode frame carries bits 7 and 3 clear (R97); the words of
`sendCommand(0x13, none)` and `sendCommand(0x29, none)` name the pseudo rows (R108 and the table's
`overlap` note); a payload that is present is not empty (R101 NonEmptyList, R104); a reserved
operation code is 0x00 or 0x10..0xFF (R105). Every other field takes every value of its width. -/
def Instr.wellFormed : Instr → Bool
  | .wireSoftwareReset => true
  | .wireSleepIn => true
  | .wireSleepOut => true
  | .wireNormalDisplayOn => true
  | .wireInversionOff => true
  | .wireInversionOn => true
  | .wireDisplayOn => true
  | .wireMemoryWrite => true
  | .wireColumnAddressSet _ _ => true
  | .wireRowAddressSet _ _ => true
  | .wireMemoryAccessControl _ => true
  | .wireColorMode parameter => parameter &&& 0x88#8 == 0#8
  | .wirePixelUnit _ _ _ => true
  | .sendCommandCmd opcode => opcode != 0x13#8 && opcode != 0x29#8
  | .sendCommandCmdData _ plen => plen != 0#32
  | .sendCommandData plen => plen != 0#32
  | .sendCommandNone => true
  | .setAddressWindow _ _ _ _ => true
  | .drawPixel _ _ _ => true
  | .fillRectangle _ _ _ _ _ => true
  | .fillScreen _ => true
  | .blitBuffer _ _ _ _ _ => true
  | .hardReset => true
  | .softReset => true
  | .setSleep _ => true
  | .setInversion _ => true
  | .setColorMode _ => true
  | .setMemoryAccessMode _ _ => true
  | .initializePanel => true
  | .drawChar _ _ _ _ => true
  | .drawText _ _ _ _ => true
  | .normalDisplayOn => true
  | .displayOn => true
  | .reserved op => op == 0#8 || decide (0x10 ≤ op.toNat)

end Sys2Proof
end

