-- ==== Sys2Proof/Decode.lean ====
section
/-! DEFINITION. The decoder and the encoder (30_encoding.md R80 to R106). A request word always
decodes (R105: every 128-bit word is one operation or IllegalRequest, and the illegal ones have
constructors of their own); a frame decodes to a wire row or is rejected by name. -/

namespace Sys2Proof

/-! ## The twelve command opcodes (R84 to R95) -/

def opSoftwareReset : Byte := 0x01
def opSleepIn : Byte := 0x10
def opSleepOut : Byte := 0x11
def opNormalDisplayOn : Byte := 0x13
def opInversionOff : Byte := 0x20
def opInversionOn : Byte := 0x21
def opDisplayOn : Byte := 0x29
def opColumnAddressSet : Byte := 0x2A
def opRowAddressSet : Byte := 0x2B
def opMemoryWrite : Byte := 0x2C
def opMemoryAccessControl : Byte := 0x36
def opColorMode : Byte := 0x3A

/-! ## The fields of the request descriptor (R103) -/

def reqOp (w : ReqWord) : Byte := w.extractLsb' 120 8
def reqFlags (w : ReqWord) : Byte := w.extractLsb' 112 8
def reqA (w : ReqWord) : U16 := w.extractLsb' 96 16
def reqB (w : ReqWord) : U16 := w.extractLsb' 80 16
def reqC (w : ReqWord) : U16 := w.extractLsb' 64 16
def reqD (w : ReqWord) : U16 := w.extractLsb' 48 16
def reqE (w : ReqWord) : U16 := w.extractLsb' 32 16
def reqPlen (w : ReqWord) : U32 := w.extractLsb' 0 32

/-- `FLAGS[0]`, the one flag an operation may use (R103). -/
def reqFlag0 (w : ReqWord) : Bool := (reqFlags w).getLsbD 0

/-- The low 8 bits of a field of which the upper 8 are ignored (R104). -/
def lowByte (v : U16) : Byte := v.extractLsb' 0 8

/-- The high 8 bits of a 16-bit value. -/
def highByte (v : U16) : Byte := v.extractLsb' 8 8

/-- The four forms of `sendCommand` and its two pseudo-operations (R104, R108, R121 to R124; the
table's `overlap` note: the row with the most mask bits names the request). -/
def decodeSendCommand (hasOp : Bool) (opcode : Byte) (plen : U32) : Instr :=
  if hasOp then
    if plen = 0#32 then
      if opcode = opNormalDisplayOn then .normalDisplayOn
      else if opcode = opDisplayOn then .displayOn
      else .sendCommandCmd opcode
    else .sendCommandCmdData opcode plen
  else if plen = 0#32 then .sendCommandNone
  else .sendCommandData plen

/-- The operation a request word names (R104, R105). Total. -/
def decodeRequest (w : ReqWord) : Instr :=
  if reqOp w = 0x01#8 then decodeSendCommand (reqFlag0 w) (lowByte (reqA w)) (reqPlen w)
  else if reqOp w = 0x02#8 then .setAddressWindow (reqA w) (reqB w) (reqC w) (reqD w)
  else if reqOp w = 0x03#8 then .drawPixel (reqA w) (reqB w) (reqE w)
  else if reqOp w = 0x04#8 then .fillRectangle (reqA w) (reqB w) (reqC w) (reqD w) (reqE w)
  else if reqOp w = 0x05#8 then .fillScreen (reqE w)
  else if reqOp w = 0x06#8 then .blitBuffer (reqA w) (reqB w) (reqC w) (reqD w) (reqPlen w)
  else if reqOp w = 0x07#8 then .hardReset
  else if reqOp w = 0x08#8 then .softReset
  else if reqOp w = 0x09#8 then .setSleep (reqFlag0 w)
  else if reqOp w = 0x0A#8 then .setInversion (reqFlag0 w)
  else if reqOp w = 0x0B#8 then .setColorMode (lowByte (reqA w))
  else if reqOp w = 0x0C#8 then .setMemoryAccessMode (lowByte (reqA w)) (reqFlag0 w)
  else if reqOp w = 0x0D#8 then .initializePanel
  else if reqOp w = 0x0E#8 then .drawChar (lowByte (reqC w)) (reqA w) (reqB w) (reqE w)
  else if reqOp w = 0x0F#8 then .drawText (reqPlen w) (reqA w) (reqB w) (reqE w)
  else .reserved (reqOp w)

/-- A frame of format WC (R81): one command byte. -/
def decodeBare (op : Byte) : Except DecodeError Instr :=
  if op = opSoftwareReset then .ok .wireSoftwareReset
  else if op = opSleepIn then .ok .wireSleepIn
  else if op = opSleepOut then .ok .wireSleepOut
  else if op = opNormalDisplayOn then .ok .wireNormalDisplayOn
  else if op = opInversionOff then .ok .wireInversionOff
  else if op = opInversionOn then .ok .wireInversionOn
  else if op = opDisplayOn then .ok .wireDisplayOn
  else if op = opMemoryWrite then .ok .wireMemoryWrite
  else .error (.notABareCommand op)

/-- A frame of format WC1 (R81): a command byte and one parameter byte. -/
def decodeOneParameter (op p : Byte) : Except DecodeError Instr :=
  if op = opMemoryAccessControl then .ok (.wireMemoryAccessControl p)
  else if op = opColorMode then
    if p &&& 0x88#8 = 0#8 then .ok (.wireColorMode p) else .error (.colorModeBitsSet p)
  else .error (.notAOneParameterCommand op)

/-- A frame of format WC4 (R81, R82): a command byte, then start and end, high byte first. -/
def decodePosition (op : Byte) (start stop : U16) : Except DecodeError Instr :=
  if op = opColumnAddressSet then .ok (.wireColumnAddressSet start stop)
  else if op = opRowAddressSet then .ok (.wireRowAddressSet start stop)
  else .error (.notAPositionCommand op)

/-- One pixel unit (R83): red in bits 15:11, green in 10:5, blue in 4:0. -/
def decodePixelUnit (c : U16) : Instr :=
  .wirePixelUnit (c.extractLsb' 11 5) (c.extractLsb' 5 6) (c.extractLsb' 0 5)

/-- The wire row a frame is an occurrence of (R81): the level of the data/command line tells a
command byte from a data byte. -/
def decodeFrame : List (Bool × Byte) → Except DecodeError Instr
  | [(false, op)] => decodeBare op
  | [(false, op), (true, p)] => decodeOneParameter op p
  | [(false, op), (true, sh), (true, sl), (true, eh), (true, el)] =>
    decodePosition op (sh ++ sl) (eh ++ el)
  | [(true, hi), (true, lo)] => .ok (decodePixelUnit (hi ++ lo))
  | _ => .error .noSuchFrame

/-- The decoder: total, rejecting by name. -/
def decode : Code → Except DecodeError Instr
  | .request w => .ok (decodeRequest w)
  | .frame bytes => decodeFrame bytes

/-! ## The encoder -/

/-- A request word from its fields (R103). -/
def requestWord (op : Byte) (flags : Byte) (a b c d e : U16) (plen : U32) : ReqWord :=
  op ++ flags ++ a ++ b ++ c ++ d ++ e ++ plen

/-- FLAGS with bit 0 set or clear and the ignored bits written as 0 (R103). -/
def flag0 (b : Bool) : Byte := if b then 1#8 else 0#8

/-- An 8-bit operand in a 16-bit field whose upper bits are ignored and written as 0 (R104). -/
def byteField (b : Byte) : U16 := b.setWidth 16

/-- A position payload as tagged wire bytes (R82). -/
def positionFrame (op : Byte) (start stop : U16) : List (Bool × Byte) :=
  [(false, op), (true, highByte start), (true, lowByte start), (true, highByte stop), (true, lowByte stop)]

/-- The colour of a pixel unit (R83). -/
def pixelColor (red : BitVec 5) (green : BitVec 6) (blue : BitVec 5) : U16 := red ++ green ++ blue

/-- The code of an instruction, from the same tables (R81, R84 to R95, R103, R104). Fields the
operation does not use are written as 0. -/
def encode : Instr → Code
  | .wireSoftwareReset => .frame [(false, opSoftwareReset)]
  | .wireSleepIn => .frame [(false, opSleepIn)]
  | .wireSleepOut => .frame [(false, opSleepOut)]
  | .wireNormalDisplayOn => .frame [(false, opNormalDisplayOn)]
  | .wireInversionOff => .frame [(false, opInversionOff)]
  | .wireInversionOn => .frame [(false, opInversionOn)]
  | .wireDisplayOn => .frame [(false, opDisplayOn)]
  | .wireMemoryWrite => .frame [(false, opMemoryWrite)]
  | .wireColumnAddressSet start stop => .frame (positionFrame opColumnAddressSet start stop)
  | .wireRowAddressSet start stop => .frame (positionFrame opRowAddressSet start stop)
  | .wireMemoryAccessControl p => .frame [(false, opMemoryAccessControl), (true, p)]
  | .wireColorMode p => .frame [(false, opColorMode), (true, p)]
  | .wirePixelUnit r g b =>
    .frame [(true, highByte (pixelColor r g b)), (true, lowByte (pixelColor r g b))]
  | .sendCommandCmd opcode => .request (requestWord 0x01 (flag0 true) (byteField opcode) 0 0 0 0 0)
  | .sendCommandCmdData opcode plen =>
    .request (requestWord 0x01 (flag0 true) (byteField opcode) 0 0 0 0 plen)
  | .sendCommandData plen => .request (requestWord 0x01 (flag0 false) 0 0 0 0 0 plen)
  | .sendCommandNone => .request (requestWord 0x01 (flag0 false) 0 0 0 0 0 0)
  | .setAddressWindow x0 y0 x1 y1 => .request (requestWord 0x02 0 x0 y0 x1 y1 0 0)
  | .drawPixel x y color => .request (requestWord 0x03 0 x y 0 0 color 0)
  | .fillRectangle x y w h color => .request (requestWord 0x04 0 x y w h color 0)
  | .fillScreen color => .request (requestWord 0x05 0 0 0 0 0 color 0)
  | .blitBuffer x y w h plen => .request (requestWord 0x06 0 x y w h 0 plen)
  | .hardReset => .request (requestWord 0x07 0 0 0 0 0 0 0)
  | .softReset => .request (requestWord 0x08 0 0 0 0 0 0 0)
  | .setSleep enabled => .request (requestWord 0x09 (flag0 enabled) 0 0 0 0 0 0)
  | .setInversion enabled => .request (requestWord 0x0A (flag0 enabled) 0 0 0 0 0 0)
  | .setColorMode mode => .request (requestWord 0x0B 0 (byteField mode) 0 0 0 0 0)
  | .setMemoryAccessMode orientation isBgr =>
    .request (requestWord 0x0C (flag0 isBgr) (byteField orientation) 0 0 0 0 0)
  | .initializePanel => .request (requestWord 0x0D 0 0 0 0 0 0 0)
  | .drawChar code x y color => .request (requestWord 0x0E 0 x y (byteField code) 0 color 0)
  | .drawText plen x y color => .request (requestWord 0x0F 0 x y 0 0 color plen)
  | .normalDisplayOn => .request (requestWord 0x01 (flag0 true) (byteField opNormalDisplayOn) 0 0 0 0 0)
  | .displayOn => .request (requestWord 0x01 (flag0 true) (byteField opDisplayOn) 0 0 0 0 0)
  | .reserved op => .request (requestWord op 0 0 0 0 0 0 0)

/-! ## The table's numbering -/

/-- Two bytes numbered as one 16-bit row. A WC1 row fixes more bits than the pixel unit, which fixes
none, so the WC1 row wins where both match (the rule of the table's `overlap` notes; DEDUCED for
the wire rows, notes/assumptions/7). -/
def layTwoBytes (hi lo : Byte) : List (Bool × Byte) :=
  if hi = opMemoryAccessControl then [(false, hi), (true, lo)]
  else if hi = opColorMode ∧ lo &&& 0x88#8 = 0#8 then [(false, hi), (true, lo)]
  else [(true, hi), (true, lo)]

/-- A row's bits as spec/opcode_table.json numbers them (bit 0 least significant, so the first wire
byte of a frame is the topmost byte of the number) laid out as the code the sequencer takes. Widths
8, 16 and 40 are the wire rows; any other width up to 128 is a request word whose bits above the
width are 0. -/
def layTable (nbits w : Nat) : Option Code :=
  if nbits = 8 then some (.frame [(false, BitVec.ofNat 8 w)])
  else if nbits = 16 then some (.frame (layTwoBytes (BitVec.ofNat 8 (w / 256)) (BitVec.ofNat 8 w)))
  else if nbits = 40 then
    some (.frame [(false, BitVec.ofNat 8 (w / 2 ^ 32)), (true, BitVec.ofNat 8 (w / 2 ^ 24)),
      (true, BitVec.ofNat 8 (w / 2 ^ 16)), (true, BitVec.ofNat 8 (w / 2 ^ 8)), (true, BitVec.ofNat 8 w)])
  else if nbits ≤ 128 then some (.request (BitVec.ofNat 128 (w % 2 ^ nbits)))
  else none

/-- The instruction the decoder reads from the bits `w` of a table row of `nbits` bits. -/
def decodeTableWord (nbits w : Nat) : Option Instr :=
  match layTable nbits w with
  | some code =>
    match decode code with
    | .ok i => some i
    | .error _ => none
  | none => none

end Sys2Proof
end

