-- ==== Sys2Proof/Machine/State.lean ====
section
/-! DEFINITION. The state of PSD-FAW as plain data (10_state.md R20 to R37): the configuration, the
pin registers, the operand latches, the sequencer position, the address-window latches, the work
counters, the delay timer, the status flags, the fault registers and the ghost trace; and what
stands outside the block and is an input of it: the reset line, the requests the host issues, the
payload stream, the transport's answers. -/

namespace Sys2Proof.Machine

/-- The event alphabet (00_scope.md R12). -/
inductive Event where
  /-- `CS(a)`: write the chip-select register, `true` asserted. -/
  | cs (asserted : Bool)
  /-- `DC(l)`: write the data/command line, `false` low for command, `true` high for data. -/
  | dc (level : Bool)
  /-- `RST(l)`: write the panel reset line. -/
  | rst (level : Bool)
  /-- `TX(bs)`: one call of the transport's write primitive. -/
  | tx (bytes : List Byte)
  /-- `WAIT(n)`: a wait of at least n milliseconds. -/
  | wait (ms : Nat)
  deriving DecidableEq, Repr

/-- An entry of the ghost trace: an event emitted and applied, or a TX the transport failed, which
"counts as attempted (it is in the trace, marked failed)" (60_exceptions.md R223), with the number
of its bytes that reached the wire (any prefix, 93_implementation_defined.md G3). -/
inductive TraceEntry where
  | done (e : Event)
  | failed (bytes : List Byte) (sent : Nat)
  deriving DecidableEq, Repr

/-- The transport's answer to one TX (10_state.md R30, 93_implementation_defined.md G4): ok, or fail
after some prefix of the bytes (G3). -/
inductive TxAnswer where
  | ok
  | fail (sent : Nat)
  deriving DecidableEq, Repr

/-- SEQ, the sequencer position (R28). In `run op k`, `k` events of the operation's trace have been
emitted. -/
inductive Seq where
  | idle
  | run (op : Op) (k : Nat)
  | faulted
  deriving DecidableEq, Repr

/-- Which of the two descriptions of R14 a step follows: `operation` runs an accepted operation to
its end in one step (the big-step trace, which is normative), `event` emits one event per step
(the sequencer of R28). The model's own (notes/assumptions/5). -/
inductive Grain where
  | operation
  | event
  deriving DecidableEq, Repr

/-- The operand latches OP and x[0..6] (R27). -/
structure Latches where
  op    : Byte
  flags : Byte
  a     : U16
  b     : U16
  c     : U16
  d     : U16
  e     : U16
  plen  : U32
  deriving DecidableEq, Repr

/-- AW, the address-window latches, physical coordinates (R26). -/
structure AddressWindow where
  xs : U16
  xe : U16
  ys : U16
  ye : U16
  deriving DecidableEq, Repr

/-- The work counters REMAINING, ROW, COL, CUR and CHARI (R29). CUR is "a mathematical integer". -/
structure Work where
  remaining : Nat
  row       : Nat
  col       : Nat
  cur       : Int
  chari     : Nat
  deriving DecidableEq, Repr

/-- An encoded request as the host presents it at the request port: the code and the payload bytes it
supplies with it (R33, 20_memory.md R53). -/
structure Offer where
  code    : Code
  payload : List Byte
  deriving DecidableEq, Repr

/-- What the host asks for: an encoded request, or one of the abstract syntax, which "is the source's
and is what a model should use" (30_encoding.md R101, 92_eei_decisions.md D3). -/
inductive Ask where
  | coded (o : Offer)
  | call (r : Request)
  deriving DecidableEq, Repr

/-- Why a run stops. -/
inductive Fault where
  /-- A position payload is formed from AW before the running operation has written it: "a read of
  unwritten AW is a model error, not a value" (R26, 93_implementation_defined.md G8). Raised by the
  address-window reads of Machine/Ops.lean. Safe: it stops where the spec gives no value; no
  operation that starts at its first event reaches it. -/
  | unwrittenAddressWindow
  deriving DecidableEq, Repr

/-- Why an input is not taken at all. -/
inductive Refusal where
  /-- An instruction of the table without a meaning yet, by its mnemonic. Raised by no arm. Safe. -/
  | notModelled (mnemonic : String)
  /-- The configuration breaks the constraints of 00_scope.md R7 and R8: "Configurations outside the
  constraints are refused" (92_eei_decisions.md D6). Raised by the acceptance of every operation.
  Safe. -/
  | illegalConfiguration
  /-- A frame that is none of the table's wire rows, by the decoder's reason. Raised by the fetch.
  Safe: the block emits no such frame of its own (R81). -/
  | notAFrame (why : DecodeError)
  deriving DecidableEq, Repr

/-- The state (R20). Fields above `grain` are the block's; `awValid` and the fields from `grain` on
are the model's own (INVENTORY.md). -/
structure State where
  /-- CFG, constant (R21). -/
  cfg : Cfg
  /-- PIN.CS, 1 asserted (R24). -/
  pinCs : Bool
  /-- PIN.DC (R24). -/
  pinDc : Bool
  /-- PIN.RST (R24). -/
  pinRst : Bool
  /-- OP and x[0..6] (R27). -/
  latches : Latches
  /-- SEQ (R28). -/
  seq : Seq
  /-- AW (R26). -/
  aw : AddressWindow
  /-- AW has been written by the operation that is running (R26). -/
  awValid : Bool
  /-- The work counters (R29). -/
  work : Work
  /-- The delay timer, milliseconds still to count (60_exceptions.md R232). -/
  timer : Nat
  /-- BUSY (R31). -/
  busy : Bool
  /-- READY (R31). -/
  ready : Bool
  /-- FAULT (R31). -/
  fault : Bool
  /-- FAULT_CAUSE (R32). -/
  faultCause : BitVec 4
  /-- FAULT_INFO (R32). -/
  faultInfo : U32
  /-- The ghost trace, oldest first (R20). -/
  trace : List TraceEntry
  /-- The description a step follows (R14). -/
  grain : Grain
  /-- The block reset input (70_reset_and_hazards.md R250). -/
  resetIn : Bool
  /-- The requests the host issues, in order; the head is the one presented (R33, R62). -/
  inbox : List Ask
  /-- The payload bytes supplied so far for the current request, PAYLOAD (R53). -/
  payload : List Byte
  /-- The transport's answers to the TX events to come, ok when none is listed (R30, G4). -/
  transport : List TxAnswer
  deriving DecidableEq, Repr

/-- The machine right after block reset (R37, R250), the pins at the default reset levels (R9,
notes/assumptions/1). The latches, AW, the counters and the timer "hold no value"; the zeros named
here are the model's (DESIGN CHOICE, notes/assumptions/2), and no operation reads one of them before
writing it. -/
def State.reset : State :=
  { cfg := Cfg.scenario
    pinCs := Cfg.scenario.resetCs
    pinDc := Cfg.scenario.resetDc
    pinRst := Cfg.scenario.resetRst
    latches := { op := 0, flags := 0, a := 0, b := 0, c := 0, d := 0, e := 0, plen := 0 }
    seq := .idle
    aw := { xs := 0, xe := 0, ys := 0, ye := 0 }
    awValid := false
    work := { remaining := 0, row := 0, col := 0, cur := 0, chari := 0 }
    timer := 0
    busy := false
    ready := false
    fault := false
    faultCause := 0
    faultInfo := 0
    trace := []
    grain := .operation
    resetIn := false
    inbox := []
    payload := []
    transport := [] }

end Sys2Proof.Machine
end

