-- ==== Sys2Proof/Machine/Operands.lean ====
section
/-! DEFINITION. How every value that reaches the wire is assembled (30_encoding.md R100), the checks
on operands (42_window_pixel.md R163, R166; 60_exceptions.md R220 to R222), the configuration's
constraints (00_scope.md R7, R8), the font and payload reads (20_memory.md R53, R54) and the
delays (70_reset_and_hazards.md R270). -/

namespace Sys2Proof.Machine

/-! ## Bytes on the wire -/

/-- `be16(v)`: most significant byte first (R11, R55). -/
def be16 (v : U16) : List Byte := [highByte v, lowByte v]

/-- `rep(xs, n)`: xs concatenated n times (R11). -/
def rep (xs : List Byte) : Nat → List Byte
  | 0 => []
  | n + 1 => xs ++ rep xs n

/-- A coordinate after its offset is added, as the 16-bit field of a position payload (R60, R82).
The sum is formed in the integers; `cfgLegal` and `inWindow` put it in 0..65535 (R162). -/
def physical (logical : Int) (offset : Nat) : U16 := BitVec.ofInt 16 (logical + offset)

/-- The colour packing function (R160). The domain is the 8-bit channels; nothing else can be
written (notes/assumptions/11). -/
def pack565 (r g b : Byte) : U16 :=
  ((r.setWidth 16 &&& 0xF8#16) <<< 8) ||| ((g.setWidth 16 &&& 0xFC#16) <<< 3) ||| (b.setWidth 16 >>> 3)

/-- The colour-mode byte, `mode & 0x77` (R97, R99). -/
def colorModeByte (mode : Byte) : Byte := mode &&& 0x77#8

/-- ORIENT_TABLE indexed by `orientation & 7` (R99, R147), entries 1 and 3 being pinned (R148). -/
def orientEntry (t : OrientTable) (orientation : Byte) : Byte :=
  match (orientation &&& 7#8).toNat with
  | 0 => t.e0.byte
  | 1 => OrientTable.pinned1.byte
  | 2 => t.e2.byte
  | 3 => OrientTable.pinned3.byte
  | 4 => t.e4.byte
  | 5 => t.e5.byte
  | 6 => t.e6.byte
  | _ => t.e7.byte

/-- The memory-access-control byte (R96, R147). -/
def memoryAccessByte (t : OrientTable) (orientation : Byte) (isBgr : Bool) : Byte :=
  orientEntry t orientation ||| (if isBgr then 0x08#8 else 0x00#8)

/-! ## The configuration's constraints -/

/-- The configurations the spec admits: the constraints of R7 and CHUNK_PIXELS >= 1 (R8, G12).
"Configurations outside the constraints are refused" (92_eei_decisions.md D6). -/
def cfgLegal (c : Cfg) : Bool :=
  decide (1 ≤ c.width) && decide (1 ≤ c.height) && decide (c.width + c.xOffset ≤ 65536) &&
    decide (c.height + c.yOffset ≤ 65536) && decide (1 ≤ c.chunkPixels)

/-! ## Faults and their codes -/

/-- The fault causes (R32, R220 to R223). -/
inductive Cause where
  | illegalRequest
  | invalidGeometry
  | invalidBuffer
  | transportFailure
  deriving DecidableEq, Repr

/-- FAULT_CAUSE codes (R32). -/
def causeCode : Cause → BitVec 4
  | .illegalRequest => 1
  | .invalidGeometry => 2
  | .invalidBuffer => 3
  | .transportFailure => 4

/-- A failed check: the cause and what FAULT_INFO receives. -/
structure Violation where
  cause : Cause
  info  : U32
  deriving DecidableEq, Repr

/-- `inWindow(x0, y0, x1, y1)`: `0 <= x0 <= x1 < WIDTH and 0 <= y0 <= y1 < HEIGHT` (R163). -/
def inWindow (c : Cfg) (x0 y0 x1 y1 : Int) : Bool :=
  decide (0 ≤ x0) && decide (x0 ≤ x1) && decide (x1 < c.width) && decide (0 ≤ y0) && decide (y0 ≤ y1) &&
    decide (y1 < c.height)

/-- FAULT_INFO of InvalidGeometry: the low 16 bits of the window's logical x0 over those of its y0
(R221). -/
def geometryInfo (x0 y0 : Int) : U32 := BitVec.ofInt 16 x0 ++ BitVec.ofInt 16 y0

/-- The check of one window (R163, R221). -/
def windowViolation (c : Cfg) (x0 y0 x1 y1 : Int) : Option Violation :=
  if inWindow c x0 y0 x1 y1 then none else some ⟨.invalidGeometry, geometryInfo x0 y0⟩

/-- The check of a rectangle: `w >= 1 and h >= 1 and inWindow(x, y, x+w-1, y+h-1)` (R166). -/
def rectangleViolation (c : Cfg) (x y w h : Int) : Option Violation :=
  if 1 ≤ w ∧ 1 ≤ h ∧ inWindow c x y (x + w - 1) (y + h - 1) then none
  else some ⟨.invalidGeometry, geometryInfo x y⟩

/-- The checks of blitBuffer in their order: the rectangle, then the buffer's length (R170, R222,
R225). FAULT_INFO of InvalidBuffer is PLEN, 32 bits. -/
def blitViolation (c : Cfg) (x y w h : Int) (length : Nat) : Option Violation :=
  match rectangleViolation c x y w h with
  | some v => some v
  | none => if (length : Int) = 2 * w * h then none else some ⟨.invalidBuffer, BitVec.ofNat 32 length⟩

/-- IllegalRequest with FAULT_INFO = `req_word[127:96]`, that is OP, FLAGS and A as latched (R220). -/
def illegalRequest (l : Latches) : Violation := ⟨.illegalRequest, l.op ++ l.flags ++ l.a⟩

/-- A text request is an operation only when HAS_TEXT (R105, R200). -/
def textViolation (c : Cfg) (l : Latches) : Option Violation :=
  if c.hasText then none else some (illegalRequest l)

/-- `sendCommand` with neither part is refused, an empty payload being an absent one (R124). -/
def sendCommandViolation (opcode : Option Byte) (plen : U32) (l : Latches) : Option Violation :=
  if opcode = none ∧ plen = 0#32 then some (illegalRequest l) else none

/-! ## Reads -/

/-- Bytes 0..n-1 of the current request's payload stream, when the host has supplied them all;
`none` while it has not (R13 MemRead, R53, R66). -/
def payloadBytes (payload : List Byte) (n : Nat) : Option (List Byte) :=
  if n ≤ payload.length then some (payload.take n) else none

/-- The row bytes of the glyph of a code, or `none` when the code is outside the font and the
character is skipped: `index < 0 or index >= GLYPH_COUNT` (R201, 90_conflicts.md C3). -/
def glyphRows (f : Font) (code : Nat) : Option (List Byte) :=
  if code < f.startCode then none else (f.glyphs[code - f.startCode]?).map Vector.toList

/-- The character code of one byte of a descriptor or a payload (R104): its low CHAR_BITS bits, all
of them with CHAR_BITS = 8 (notes/assumptions/20). -/
def charCode (c : Cfg) (b : Byte) : Nat := b.toNat % 2 ^ c.charBits

/-- The columns whose bit is set, ascending, column `col` being bit `7 - col` (R54, R201). -/
def litColumns (byte : Byte) : List Nat := (List.range 8).filter (fun col => byte.getLsbD (7 - col))

/-- The lit pixels of a glyph as (row, column), rows ascending and columns ascending within a row
(R201, D21). The first argument is the number of the first row byte. -/
def litPixels : Nat → List Byte → List (Nat × Nat)
  | _, [] => []
  | row, b :: bs => (litColumns b).map (fun col => (row, col)) ++ litPixels (row + 1) bs

/-! ## The delays, in milliseconds (R8, R270) -/

def tHr1 : Nat := 50
def tHr2 : Nat := 50
def tHr3 : Nat := 150
def tSwReset : Nat := 150
def tInitColMod : Nat := 50
def tInitInvOn : Nat := 10
def tInitNorOn : Nat := 10
def tInitDispOn : Nat := 500

end Sys2Proof.Machine
end

