-- ==== Sys2Proof/Machine/Flags.lean ====
section
/-! DEFINITION. The status flags and the outputs that show the state (10_state.md R25, R31, R33).
There are no arithmetic flags in this hardware (R31). -/

namespace Sys2Proof.Machine

/-- The operation is initialize. -/
def isInitialize (op : Op) : Bool := op == .row .initializePanel || op == .call .initializePanel

/-- READY when an operation is accepted: an initialize request clears it, no other does (R31, R190). -/
def readyAtAcceptance (op : Op) (ready : Bool) : Bool := if isInitialize op then false else ready

/-- READY when an operation has run to completion: initialize sets it, no other does (R31, R190). -/
def readyAtCompletion (op : Op) (ready : Bool) : Bool := if isInitialize op then true else ready

/-- `req_ready` is 1 exactly when SEQ is IDLE (R33). -/
def reqReady (s : State) : Bool :=
  match s.seq with
  | .idle => true
  | .run _ _ => false
  | .faulted => false

/-- The electrical level of the `cs` pad (R25, R33). -/
def csLevel (s : State) : Bool := if s.pinCs then s.cfg.csAssertedLevel else !s.cfg.csAssertedLevel

/-- The outputs of the block that are levels of its state (R33). -/
structure Ports where
  reqReady   : Bool
  cs         : Bool
  dc         : Bool
  rst        : Bool
  busy       : Bool
  ready      : Bool
  fault      : Bool
  faultCause : BitVec 4
  faultInfo  : U32
  deriving DecidableEq, Repr

/-- The output ports (R33). -/
def ports (s : State) : Ports :=
  { reqReady := reqReady s, cs := csLevel s, dc := s.pinDc, rst := s.pinRst, busy := s.busy,
    ready := s.ready, fault := s.fault, faultCause := s.faultCause, faultInfo := s.faultInfo }

end Sys2Proof.Machine
end

