-- ==== Sys2Proof/Machine/Ops.lean ====
section
/-! DEFINITION. The shared operations: a transaction (40_framing.md R120), applying an event
(10_state.md R30), fault entry (60_exceptions.md R224), the acceptance and the completion of an
operation (R28, R31), block reset (70_reset_and_hazards.md R250), and running an operation to its
end or by one event (00_scope.md R14). There is no return from a fault but block reset (R227). -/

namespace Sys2Proof.Machine

/-- What `step` and every meaning answer. -/
abbrev Result := Host.Outcome State Fault Refusal

/-- `txn(opcode?, payload?)`, the trace of one bus transaction (R120). -/
def txn (opcode : Option Byte) (payload : Option (List Byte)) : List Event :=
  [.cs true] ++
    (match opcode with
      | some op => [.dc false, .tx [op]]
      | none => []) ++
    (match payload with
      | some bs => [.dc true, .tx bs]
      | none => []) ++
    [.cs false]

/-- A step of the sequencer's program for one operation: an event to emit, or work between events. -/
inductive Micro where
  /-- Emit a fixed event. -/
  | emit (e : Event)
  /-- Emit the TX of the column payload formed from AW.XS and AW.XE (R26, R164). -/
  | columnPayload
  /-- Emit the TX of the row payload formed from AW.YS and AW.YE (R26, R164). -/
  | rowPayload
  /-- Check a window and write AW, or raise InvalidGeometry (R163, R164). -/
  | window (x0 y0 x1 y1 : Int)
  /-- Reach a lit pixel of a glyph whose cell begins at (x, y): ROW, COL, then the pixel's window
  (R29, R201). -/
  | glyphPixel (x y : Int) (row col : Nat)
  /-- REMAINING (R29, R167). -/
  | remaining (n : Nat)
  /-- CHARI and CUR (R29, R203). -/
  | cursor (chari : Nat) (cur : Int)
  /-- Wait for payload bytes the host has not supplied (R66). -/
  | awaitPayload
  deriving DecidableEq, Repr

/-- The micro steps that emit an event, which `k` of R28 counts. -/
def isEvent : Micro → Bool
  | .emit _ => true
  | .columnPayload => true
  | .rowPayload => true
  | .window _ _ _ _ => false
  | .glyphPixel _ _ _ _ => false
  | .remaining _ => false
  | .cursor _ _ => false
  | .awaitPayload => false

/-- What one micro step leads to: on to the next, no further for now (a fault taken, or waiting), or
a fault of the model. -/
inductive Progress where
  | go (s : State)
  | halt (s : State)
  | broken (f : Fault)
  deriving DecidableEq, Repr

/-! ## Events -/

/-- The registers an event writes (R30). WAIT loads the delay timer (R232). -/
def applyEvent (e : Event) (s : State) : State :=
  match e with
  | .cs a => { s with pinCs := a }
  | .dc l => { s with pinDc := l }
  | .rst l => { s with pinRst := l }
  | .tx _ => s
  | .wait n => { s with timer := n }

/-- SEQ advances by exactly one event (R28). -/
def advanceSeq : Seq → Seq
  | .idle => .idle
  | .run i k => .run i (k + 1)
  | .faulted => .faulted

/-- The number of the event about to be emitted (R28). -/
def eventIndex : Seq → Nat
  | .idle => 0
  | .run _ k => k
  | .faulted => 0

/-- An event emitted and applied: it joins the trace and SEQ advances (R28, R30). -/
def emitDone (e : Event) (s : State) : State :=
  { applyEvent e s with trace := s.trace ++ [.done e], seq := advanceSeq s.seq }

/-- Fault entry, `raise F(info)`, in one step (R224). The pins, AW, the counters and READY stay. -/
def raise (v : Violation) (s : State) : State :=
  { s with
    seq := .faulted
    fault := true
    busy := false
    faultCause := causeCode v.cause
    faultInfo := v.info }

/-- A TX the transport failed: it is in the trace, marked, and TransportFailure is raised with the
number of the event (R223). No pin is restored and nothing is retried (R128). -/
def failTx (bs : List Byte) (sent : Nat) (s : State) : State :=
  raise ⟨.transportFailure, BitVec.ofNat 32 (eventIndex s.seq)⟩ { s with trace := s.trace ++ [.failed bs sent] }

/-- Emit one event; a TX takes the transport's answer (R30). -/
def emit (e : Event) (s : State) : Progress :=
  match e with
  | .cs a => .go (emitDone (.cs a) s)
  | .dc l => .go (emitDone (.dc l) s)
  | .rst l => .go (emitDone (.rst l) s)
  | .wait n => .go (emitDone (.wait n) s)
  | .tx bs =>
    match s.transport with
    | [] => .go (emitDone (.tx bs) s)
    | .ok :: rest => .go (emitDone (.tx bs) { s with transport := rest })
    | .fail sent :: rest => .halt (failTx bs sent { s with transport := rest })

/-! ## The address window -/

/-- Write the four latches: logical coordinates plus offset (R26, R60, R164). -/
def writeWindow (x0 y0 x1 y1 : Int) (s : State) : State :=
  { s with
    aw :=
      { xs := physical x0 s.cfg.xOffset
        xe := physical x1 s.cfg.xOffset
        ys := physical y0 s.cfg.yOffset
        ye := physical y1 s.cfg.yOffset }
    awValid := true }

/-- Check a window, then write AW; a violation raises before any event of the window (R163, R164). The
step in which this happens is the model's choice (notes/assumptions/26). -/
def openWindow (x0 y0 x1 y1 : Int) (s : State) : Progress :=
  match windowViolation s.cfg x0 y0 x1 y1 with
  | some v => .halt (raise v s)
  | none => .go (writeWindow x0 y0 x1 y1 s)

/-- Emit a position payload read from AW, which the running operation must have written (R26). -/
def emitPosition (start stop : U16) (s : State) : Progress :=
  if s.awValid then emit (.tx (be16 start ++ be16 stop)) s else .broken .unwrittenAddressWindow

/-! ## Running an operation -/

/-- One micro step. -/
def perform (m : Micro) (s : State) : Progress :=
  match m with
  | .emit e => emit e s
  | .columnPayload => emitPosition s.aw.xs s.aw.xe s
  | .rowPayload => emitPosition s.aw.ys s.aw.ye s
  | .window x0 y0 x1 y1 => openWindow x0 y0 x1 y1 s
  | .glyphPixel x y row col =>
    openWindow (x + col) (y + row) (x + col) (y + row) { s with work := { s.work with row := row, col := col } }
  | .remaining n => .go { s with work := { s.work with remaining := n } }
  | .cursor chari cur => .go { s with work := { s.work with chari := chari, cur := cur } }
  | .awaitPayload => .halt s

/-- The wait an event began is over: the timer has counted down (R232, R262). -/
def settleWait (s : State) : State := { s with timer := 0 }

/-- The operation is complete: SEQ returns to IDLE, BUSY falls, AW holds no value any more, and
initialize sets READY (R26, R28, R31). -/
def complete (op : Op) (s : State) : State :=
  { s with
    seq := .idle
    busy := false
    awValid := false
    ready := readyAtCompletion op s.ready }

/-- Run the rest of operation `op` to its end (the big-step description of R14): every event in
order, each wait to its end, until the program is finished, a fault is taken or payload is lacking. -/
def runMicros (op : Op) : List Micro → State → Result
  | [], s => .next (complete op s)
  | m :: ms, s =>
    match perform m s with
    | .go s' => runMicros op ms (settleWait s')
    | .halt s' => .next s'
    | .broken f => .fault f

/-- Run operation `op` on by one event (the small-step description of R14 and R28): the work before
the event, then the event; or the completion when no event is left. The work of the step that emits a
window's first event holds the check and the writing of AW: in which step AW is written the spec leaves
open (R26, R28), and that it is this one and not the acceptance is the model's own (DESIGN CHOICE,
notes/assumptions/26). -/
def runOneEvent (op : Op) : List Micro → State → Result
  | [], s => .next (complete op s)
  | m :: ms, s =>
    match perform m s with
    | .go s' => if isEvent m then .next s' else runOneEvent op ms s'
    | .halt s' => .next s'
    | .broken f => .fault f

/-- The program after its first `k` events. -/
def afterEvents : Nat → List Micro → List Micro
  | 0, ms => ms
  | _ + 1, [] => []
  | k + 1, m :: ms => if isEvent m then afterEvents k ms else afterEvents (k + 1) ms

/-- Acceptance: SEQ becomes RUN(op, 0), BUSY rises, AW and the timer hold no value yet, and an
initialize request clears READY (R26, R28, R31). -/
def begin (op : Op) (s : State) : State :=
  { s with
    seq := .run op 0
    busy := true
    awValid := false
    timer := 0
    ready := readyAtAcceptance op s.ready }

/-- Start an accepted operation: one step runs it to its end, or only accepts it (R14, R28). -/
def launch (op : Op) (program : List Micro) (s : State) : Result :=
  match s.grain with
  | .operation => runMicros op program (begin op s)
  | .event => .next (begin op s)

/-- A request at the sequencer. It is accepted only in IDLE and otherwise changes nothing (R66,
R258); a configuration outside the constraints is refused (D6); the checks come first and a failed
one raises its fault before any event (R225, R226); then the operation starts. -/
def accept (op : Op) (check : Option Violation) (program : List Micro) (s : State) : Result :=
  match s.seq with
  | .idle =>
    if cfgLegal s.cfg then
      match check with
      | some v => .next (raise v s)
      | none => launch op program s
    else .refused .illegalConfiguration
  | .run _ _ => .next s
  | .faulted => .next s

/-! ## Inputs of the block -/

/-- Block reset (R250, R251): every piece of the block's state takes its reset value, the pins their
configured reset levels (R9), CFG and what stands outside the block stay. The reset line is a pulse:
the step that sees it consumes it (notes/assumptions/9). -/
def blockReset (s : State) : State :=
  { State.reset with
    cfg := s.cfg
    pinCs := s.cfg.resetCs
    pinDc := s.cfg.resetDc
    pinRst := s.cfg.resetRst
    grain := s.grain
    inbox := s.inbox
    transport := s.transport }

/-- One millisecond of the time base passes while a WAIT is counted (R232). -/
def tick (s : State) : State := { s with timer := s.timer - 1 }

/-- The operand latches are loaded from the request word at acceptance (R27). -/
def latchRequest (w : ReqWord) : Latches :=
  { op := reqOp w, flags := reqFlags w, a := reqA w, b := reqB w, c := reqC w, d := reqD w, e := reqE w,
    plen := reqPlen w }

/-- Take an offer from the request port: a request word fills the operand latches (R27), and the
payload stream becomes the one supplied with it (R53). A frame has no descriptor. -/
def takeOffer (o : Offer) (s : State) : State :=
  match o.code with
  | .request w => { s with latches := latchRequest w, payload := o.payload }
  | .frame _ => { s with payload := o.payload }

/-- The host supplies further payload bytes of the current request (R53, R66). -/
def deliver (bs : List Byte) (s : State) : State := { s with payload := s.payload ++ bs }

/-- The host presents a further request after those it has presented (R33, R62). -/
def offer (a : Ask) (s : State) : State := { s with inbox := s.inbox ++ [a] }

/-- The host asserts the block reset input (R250). -/
def assertReset (s : State) : State := { s with resetIn := true }

end Sys2Proof.Machine
end

