-- ==== Sys2Proof/Machine/Wire.lean ====
section
/-! DEFINITION. The wire rows (30_encoding.md R81 to R97): the meaning of a frame is the one
transaction the block emits for it (40_framing.md R120). The block checks nothing of a frame (R98),
and a wait belongs to the operation that has one, not to the frame (R84, R121, R141). That a frame
can be handed to the sequencer by itself is the model's own (notes/assumptions/6). -/

namespace Sys2Proof.Machine

/-- A program that emits fixed events only. -/
def emitAll (es : List Event) : List Micro := es.map .emit

/-- The transaction of a frame with no payload, format WC (R81). -/
def frameWC (op : Byte) : List Event := txn (some op) none

/-- The transaction of a frame with one parameter, format WC1 (R81). -/
def frameWC1 (op p : Byte) : List Event := txn (some op) (some [p])

/-- The transaction of a frame with a position payload, format WC4 (R81, R82). -/
def frameWC4 (op : Byte) (start stop : U16) : List Event := txn (some op) (some (be16 start ++ be16 stop))

/-- The transaction of one pixel unit, format WD (R81, R83). -/
def framePixel (c : U16) : List Event := txn none (some (be16 c))

def execWireSoftwareReset (s : State) : Result :=
  accept (.row .wireSoftwareReset) none (emitAll (frameWC opSoftwareReset)) s

def execWireSleepIn (s : State) : Result := accept (.row .wireSleepIn) none (emitAll (frameWC opSleepIn)) s

def execWireSleepOut (s : State) : Result := accept (.row .wireSleepOut) none (emitAll (frameWC opSleepOut)) s

def execWireNormalDisplayOn (s : State) : Result :=
  accept (.row .wireNormalDisplayOn) none (emitAll (frameWC opNormalDisplayOn)) s

def execWireInversionOff (s : State) : Result :=
  accept (.row .wireInversionOff) none (emitAll (frameWC opInversionOff)) s

def execWireInversionOn (s : State) : Result :=
  accept (.row .wireInversionOn) none (emitAll (frameWC opInversionOn)) s

def execWireDisplayOn (s : State) : Result := accept (.row .wireDisplayOn) none (emitAll (frameWC opDisplayOn)) s

def execWireMemoryWrite (s : State) : Result :=
  accept (.row .wireMemoryWrite) none (emitAll (frameWC opMemoryWrite)) s

def execWireColumnAddressSet (start stop : U16) (s : State) : Result :=
  accept (.row (.wireColumnAddressSet start stop)) none (emitAll (frameWC4 opColumnAddressSet start stop)) s

def execWireRowAddressSet (start stop : U16) (s : State) : Result :=
  accept (.row (.wireRowAddressSet start stop)) none (emitAll (frameWC4 opRowAddressSet start stop)) s

def execWireMemoryAccessControl (p : Byte) (s : State) : Result :=
  accept (.row (.wireMemoryAccessControl p)) none (emitAll (frameWC1 opMemoryAccessControl p)) s

def execWireColorMode (p : Byte) (s : State) : Result :=
  accept (.row (.wireColorMode p)) none (emitAll (frameWC1 opColorMode p)) s

def execWirePixelUnit (r : BitVec 5) (g : BitVec 6) (b : BitVec 5) (s : State) : Result :=
  accept (.row (.wirePixelUnit r g b)) none (emitAll (framePixel (pixelColor r g b))) s

end Sys2Proof.Machine
end

