-- ==== Sys2Proof/Machine/Framing.lean ====
section
/-! DEFINITION. sendCommand in its four forms, its two pseudo-operations, and the reserved codes
(40_framing.md R121 to R124, 41_control.md R144, R145, 30_encoding.md R105, R108). -/

namespace Sys2Proof.Machine

/-- The payload argument of a sendCommand of `plen` bytes: absent when the length is 0 (R104, R124). -/
def payloadArgument (plen : U32) (payload : List Byte) : Option (List Byte) :=
  if plen = 0#32 then none else some (payload.take plen.toNat)

/-- The complete trace of sendCommand when nothing fails (R121 to R123). -/
def expandSendCommand (opcode : Option Byte) (plen : U32) (payload : List Byte) : List Event :=
  txn opcode (payloadArgument plen payload)

/-- The command phase of a transaction whose payload the host has not supplied in full, up to the TX
that needs it (R66, G9). -/
def starvedTransaction (opcode : Option Byte) : List Micro :=
  emitAll ([.cs true] ++
    (match opcode with
      | some op => [.dc false, .tx [op]]
      | none => []) ++
    [.dc true]) ++ [.awaitPayload]

/-- The program of sendCommand: its trace, or the part before the TX that lacks payload (R66). -/
def programSendCommand (opcode : Option Byte) (plen : U32) (payload : List Byte) : List Micro :=
  match payloadBytes payload plen.toNat with
  | some _ => emitAll (expandSendCommand opcode plen payload)
  | none => starvedTransaction opcode

def execSendCommandCmd (opcode : Byte) (s : State) : Result :=
  accept (.row (.sendCommandCmd opcode)) none (programSendCommand (some opcode) 0 s.payload) s

def execSendCommandCmdData (opcode : Byte) (plen : U32) (s : State) : Result :=
  accept (.row (.sendCommandCmdData opcode plen)) none (programSendCommand (some opcode) plen s.payload) s

def execSendCommandData (plen : U32) (s : State) : Result :=
  accept (.row (.sendCommandData plen)) (sendCommandViolation none plen s.latches)
    (programSendCommand none plen s.payload) s

def execSendCommandNone (s : State) : Result :=
  accept (.row .sendCommandNone) (some (illegalRequest s.latches)) [] s

/-- `normalDisplayOn()` is `sendCommand(0x13, none)` (R144). -/
def execNormalDisplayOn (s : State) : Result :=
  accept (.row .normalDisplayOn) none (emitAll (txn (some opNormalDisplayOn) none)) s

/-- `displayOn()` is `sendCommand(0x29, none)` (R145). -/
def execDisplayOn (s : State) : Result := accept (.row .displayOn) none (emitAll (txn (some opDisplayOn) none)) s

/-- A reserved code is not executed: it raises IllegalRequest before any event (R105, R220). -/
def execReserved (op : Byte) (s : State) : Result :=
  accept (.row (.reserved op)) (some (illegalRequest s.latches)) [] s

end Sys2Proof.Machine
end

