-- ==== Sys2Proof/Machine/Control.lean ====
section
/-! DEFINITION. The panel control operations (41_control.md R140 to R148): fixed sequences of
transactions, pin events and waits; none checks an operand. -/

namespace Sys2Proof.Machine

/-- hardReset (R140). -/
def expandHardReset : List Event :=
  [.cs true, .rst true, .wait tHr1, .rst false, .wait tHr2, .rst true, .wait tHr3, .cs false]

/-- softReset (R141). -/
def expandSoftReset : List Event := txn (some opSoftwareReset) none ++ [.wait tSwReset]

/-- setSleep (R142). -/
def expandSetSleep (enabled : Bool) : List Event := txn (some (if enabled then opSleepIn else opSleepOut)) none

/-- setInversion (R143). -/
def expandSetInversion (enabled : Bool) : List Event :=
  txn (some (if enabled then opInversionOn else opInversionOff)) none

/-- setColorMode (R146). -/
def expandSetColorMode (mode : Byte) : List Event := txn (some opColorMode) (some [colorModeByte mode])

/-- setMemoryAccessMode (R147). -/
def expandSetMemoryAccessMode (t : OrientTable) (orientation : Byte) (isBgr : Bool) : List Event :=
  txn (some opMemoryAccessControl) (some [memoryAccessByte t orientation isBgr])

def execHardReset (s : State) : Result := accept (.row .hardReset) none (emitAll expandHardReset) s

def execSoftReset (s : State) : Result := accept (.row .softReset) none (emitAll expandSoftReset) s

def execSetSleep (enabled : Bool) (s : State) : Result :=
  accept (.row (.setSleep enabled)) none (emitAll (expandSetSleep enabled)) s

def execSetInversion (enabled : Bool) (s : State) : Result :=
  accept (.row (.setInversion enabled)) none (emitAll (expandSetInversion enabled)) s

def execSetColorMode (mode : Byte) (s : State) : Result :=
  accept (.row (.setColorMode mode)) none (emitAll (expandSetColorMode mode)) s

def execSetMemoryAccessMode (orientation : Byte) (isBgr : Bool) (s : State) : Result :=
  accept (.row (.setMemoryAccessMode orientation isBgr)) none
    (emitAll (expandSetMemoryAccessMode s.cfg.orientTable orientation isBgr)) s

end Sys2Proof.Machine
end

