-- ==== Sys2Proof/Machine/Window.lean ====
section
/-! DEFINITION. The address window and the operations that stream pixels (42_window_pixel.md R163 to
R171). `expand…` is the complete trace when nothing fails (00_scope.md R14), on coordinates that
pass the check; `program…` is what the sequencer runs, which writes AW and reads it back. -/

namespace Sys2Proof.Machine

/-- setAddressWindow (R164): column-address-set, row-address-set, memory-write. -/
def expandSetAddressWindow (c : Cfg) (x0 y0 x1 y1 : Int) : List Event :=
  txn (some opColumnAddressSet) (some (be16 (physical x0 c.xOffset) ++ be16 (physical x1 c.xOffset))) ++
    txn (some opRowAddressSet) (some (be16 (physical y0 c.yOffset) ++ be16 (physical y1 c.yOffset))) ++
    txn (some opMemoryWrite) none

/-- The three transactions of a window, the position payloads read from AW (R26, R164). -/
def windowTransactions : List Micro :=
  [.emit (.cs true), .emit (.dc false), .emit (.tx [opColumnAddressSet]), .emit (.dc true), .columnPayload,
    .emit (.cs false), .emit (.cs true), .emit (.dc false), .emit (.tx [opRowAddressSet]), .emit (.dc true),
    .rowPayload, .emit (.cs false)] ++ emitAll (txn (some opMemoryWrite) none)

/-- The window of setAddressWindow: the check and the latches, then the transactions (R164). -/
def programWindow (x0 y0 x1 y1 : Int) : List Micro := .window x0 y0 x1 y1 :: windowTransactions

/-- drawPixel (R165). -/
def expandDrawPixel (c : Cfg) (x y : Int) (color : U16) : List Event :=
  expandSetAddressWindow c x y x y ++ txn none (some (be16 color))

def programDrawPixel (x y : Int) (color : U16) : List Micro :=
  programWindow x y x y ++ emitAll (txn none (some (be16 color)))

/-- The window of a rectangle: `(x, y, x + w - 1, y + h - 1)` (R166). -/
def expandRectangleWindow (c : Cfg) (x y w h : Int) : List Event :=
  expandSetAddressWindow c x y (x + w - 1) (y + h - 1)

def programRectangleWindow (x y w h : Int) : List Micro := programWindow x y (x + w - 1) (y + h - 1)

/-- One batch of `n` pixel units, a transaction of its own (R167). -/
def batch (color : U16) (n : Nat) : List Event := txn none (some (rep (be16 color) n))

/-- The batches of a fill of `n` pixel units: `n div chunk` full ones, then one partial batch if the
remainder is not zero (R167, D12). -/
def fillBatches (chunk : Nat) (color : U16) (n : Nat) : List Event :=
  (List.replicate (n / chunk) (batch color chunk)).flatten ++
    (if 0 < n % chunk then batch color (n % chunk) else [])

/-- fillRectangle (R167). -/
def expandFill (c : Cfg) (x y w h : Int) (color : U16) : List Event :=
  expandRectangleWindow c x y w h ++ fillBatches c.chunkPixels color (w * h).toNat

/-- One batch as the sequencer runs it: once its bytes are sent, REMAINING is `left` (R29, R167). -/
def programBatch (color : U16) (n left : Nat) : List Micro :=
  [.emit (.cs true), .emit (.dc true), .emit (.tx (rep (be16 color) n)), .remaining left, .emit (.cs false)]

/-- `q` full batches when `total` units are still to stream before the first (R167). -/
def programFullBatches (chunk : Nat) (color : U16) : Nat → Nat → List Micro
  | 0, _ => []
  | q + 1, total =>
    programBatch color chunk (total - chunk) ++ programFullBatches chunk color q (total - chunk)

/-- The batches as the sequencer runs them, REMAINING counting from `n` to 0 (R29, R167). -/
def programBatches (chunk : Nat) (color : U16) (n : Nat) : List Micro :=
  .remaining n :: programFullBatches chunk color (n / chunk) n ++
    (if 0 < n % chunk then programBatch color (n % chunk) 0 else [])

def programFill (c : Cfg) (x y w h : Int) (color : U16) : List Micro :=
  programRectangleWindow x y w h ++ programBatches c.chunkPixels color (w * h).toNat

/-- blitBuffer (R170): the window, then the whole buffer in one transaction. -/
def expandBlit (c : Cfg) (x y w h : Int) (buffer : List Byte) : List Event :=
  expandRectangleWindow c x y w h ++ txn none (some buffer)

def programBlit (x y w h : Int) (plen : U32) (payload : List Byte) : List Micro :=
  programRectangleWindow x y w h ++
    (match payloadBytes payload plen.toNat with
      | some buffer => emitAll (txn none (some buffer))
      | none => starvedTransaction none)

def execSetAddressWindow (x0 y0 x1 y1 : U16) (s : State) : Result :=
  accept (.row (.setAddressWindow x0 y0 x1 y1)) (windowViolation s.cfg x0.toNat y0.toNat x1.toNat y1.toNat)
    (programWindow x0.toNat y0.toNat x1.toNat y1.toNat) s

def execDrawPixel (x y color : U16) (s : State) : Result :=
  accept (.row (.drawPixel x y color)) (windowViolation s.cfg x.toNat y.toNat x.toNat y.toNat)
    (programDrawPixel x.toNat y.toNat color) s

def execFillRectangle (x y w h color : U16) (s : State) : Result :=
  accept (.row (.fillRectangle x y w h color)) (rectangleViolation s.cfg x.toNat y.toNat w.toNat h.toNat)
    (programFill s.cfg x.toNat y.toNat w.toNat h.toNat color) s

/-- fillScreen is fillRectangle(0, 0, WIDTH, HEIGHT, color); its rectangle always passes (R169). -/
def execFillScreen (color : U16) (s : State) : Result :=
  accept (.row (.fillScreen color)) none (programFill s.cfg 0 0 s.cfg.width s.cfg.height color) s

def execBlitBuffer (x y w h : U16) (plen : U32) (s : State) : Result :=
  accept (.row (.blitBuffer x y w h plen)) (blitViolation s.cfg x.toNat y.toNat w.toNat h.toNat plen.toNat)
    (programBlit x.toNat y.toNat w.toNat h.toNat plen s.payload) s

end Sys2Proof.Machine
end

