-- ==== Sys2Proof/Machine/Init.lean ====
section
/-! DEFINITION. The initialization sequence (43_init.md R190 to R193). READY is cleared at its
acceptance and set at its completion by the shared operations of Machine/Ops.lean (R31). -/

namespace Sys2Proof.Machine

/-- Steps 1 to 10 of initialize, before the fill (R190). -/
def expandInitBefore (c : Cfg) : List Event :=
  expandHardReset ++ expandSoftReset ++ expandSetSleep false ++ expandSetColorMode c.initColorMode ++
    [.wait tInitColMod] ++ expandSetMemoryAccessMode c.orientTable c.initOrientation c.initBgr ++
    expandSetInversion true ++ [.wait tInitInvOn] ++ txn (some opNormalDisplayOn) none ++ [.wait tInitNorOn]

/-- Steps 12 and 13, after the fill (R190). -/
def expandInitAfter : List Event := txn (some opDisplayOn) none ++ [.wait tInitDispOn]

/-- initialize (R190). -/
def expandInitialize (c : Cfg) : List Event :=
  expandInitBefore c ++ expandFill c 0 0 c.width c.height c.initFillColor ++ expandInitAfter

def programInitialize (c : Cfg) : List Micro :=
  emitAll (expandInitBefore c) ++ programFill c 0 0 c.width c.height c.initFillColor ++ emitAll expandInitAfter

def execInitializePanel (s : State) : Result := accept (.row .initializePanel) none (programInitialize s.cfg) s

end Sys2Proof.Machine
end

