-- ==== Sys2Proof/Machine/Text.lean ====
section
/-! DEFINITION. The text operations (44_text.md R200 to R205). -/

namespace Sys2Proof.Machine

/-- The lit pixels of a character, none when the code is outside the font (R201, R205). -/
def charPixels (f : Font) (code : Nat) : List (Nat × Nat) :=
  match glyphRows f code with
  | some rows => litPixels 0 rows
  | none => []

/-- drawChar (R201): one drawPixel per lit pixel, at (x + col, y + row). -/
def expandDrawChar (c : Cfg) (code : Nat) (x y : Int) (color : U16) : List Event :=
  (charPixels c.font code).flatMap (fun p => expandDrawPixel c (x + p.2) (y + p.1) color)

/-- One lit pixel as the sequencer reaches it: the counters, the check, and drawPixel (R201, R226). -/
def programGlyphPixel (x y : Int) (color : U16) (p : Nat × Nat) : List Micro :=
  .glyphPixel x y p.1 p.2 :: windowTransactions ++ emitAll (txn none (some (be16 color)))

def programDrawChar (c : Cfg) (code : Nat) (x y : Int) (color : U16) : List Micro :=
  (charPixels c.font code).flatMap (programGlyphPixel x y color)

/-- drawText from a cursor on (R203): each character at the cursor, then the cursor moves by
CHAR_WIDTH, after a skipped character too. -/
def expandDrawText (c : Cfg) (y : Int) (color : U16) : Int → List Nat → List Event
  | _, [] => []
  | cur, code :: codes =>
    expandDrawChar c code cur y color ++ expandDrawText c y color (cur + c.font.charWidth) codes

/-- The characters from number `chari` on, with CHARI and CUR (R29, R203). -/
def programText (c : Cfg) (y : Int) (color : U16) : Nat → Int → List Nat → List Micro
  | chari, cur, [] => [.cursor chari cur]
  | chari, cur, code :: codes =>
    .cursor chari cur :: programDrawChar c code cur y color ++
      programText c y color (chari + 1) (cur + c.font.charWidth) codes

/-- drawText on the codes the host has supplied, then waiting for the rest (R66, R203). -/
def programDrawText (c : Cfg) (plen : U32) (x y : Int) (color : U16) (payload : List Byte) : List Micro :=
  programText c y color 0 x ((payload.take plen.toNat).map (charCode c)) ++
    (match payloadBytes payload plen.toNat with
      | some _ => []
      | none => [.awaitPayload])

def execDrawChar (code : Byte) (x y color : U16) (s : State) : Result :=
  accept (.row (.drawChar code x y color)) (textViolation s.cfg s.latches)
    (programDrawChar s.cfg (charCode s.cfg code) x.toNat y.toNat color) s

def execDrawText (plen : U32) (x y color : U16) (s : State) : Result :=
  accept (.row (.drawText plen x y color)) (textViolation s.cfg s.latches)
    (programDrawText s.cfg plen x.toNat y.toNat color s.payload) s

end Sys2Proof.Machine
end

