-- ==== Sys2Proof/Machine/Dispatch.lean ====
section
/-! DEFINITION. The dispatch of an instruction to its meaning, one arm per constructor, in the order of
spec/opcode_table.json. -/

namespace Sys2Proof.Machine

def exec (i : Instr) (s : State) : Host.Outcome State Fault Refusal :=
  match i with
  | .wireSoftwareReset => Sys2Proof.Machine.execWireSoftwareReset s
  | .wireSleepIn => Sys2Proof.Machine.execWireSleepIn s
  | .wireSleepOut => Sys2Proof.Machine.execWireSleepOut s
  | .wireNormalDisplayOn => Sys2Proof.Machine.execWireNormalDisplayOn s
  | .wireInversionOff => Sys2Proof.Machine.execWireInversionOff s
  | .wireInversionOn => Sys2Proof.Machine.execWireInversionOn s
  | .wireDisplayOn => Sys2Proof.Machine.execWireDisplayOn s
  | .wireMemoryWrite => Sys2Proof.Machine.execWireMemoryWrite s
  | .wireColumnAddressSet start stop => Sys2Proof.Machine.execWireColumnAddressSet start stop s
  | .wireRowAddressSet start stop => Sys2Proof.Machine.execWireRowAddressSet start stop s
  | .wireMemoryAccessControl p => Sys2Proof.Machine.execWireMemoryAccessControl p s
  | .wireColorMode p => Sys2Proof.Machine.execWireColorMode p s
  | .wirePixelUnit r g b => Sys2Proof.Machine.execWirePixelUnit r g b s
  | .sendCommandCmd opcode => Sys2Proof.Machine.execSendCommandCmd opcode s
  | .sendCommandCmdData opcode plen => Sys2Proof.Machine.execSendCommandCmdData opcode plen s
  | .sendCommandData plen => Sys2Proof.Machine.execSendCommandData plen s
  | .sendCommandNone => Sys2Proof.Machine.execSendCommandNone s
  | .setAddressWindow x0 y0 x1 y1 => Sys2Proof.Machine.execSetAddressWindow x0 y0 x1 y1 s
  | .drawPixel x y color => Sys2Proof.Machine.execDrawPixel x y color s
  | .fillRectangle x y w h color => Sys2Proof.Machine.execFillRectangle x y w h color s
  | .fillScreen color => Sys2Proof.Machine.execFillScreen color s
  | .blitBuffer x y w h plen => Sys2Proof.Machine.execBlitBuffer x y w h plen s
  | .hardReset => Sys2Proof.Machine.execHardReset s
  | .softReset => Sys2Proof.Machine.execSoftReset s
  | .setSleep enabled => Sys2Proof.Machine.execSetSleep enabled s
  | .setInversion enabled => Sys2Proof.Machine.execSetInversion enabled s
  | .setColorMode mode => Sys2Proof.Machine.execSetColorMode mode s
  | .setMemoryAccessMode orientation isBgr => Sys2Proof.Machine.execSetMemoryAccessMode orientation isBgr s
  | .initializePanel => Sys2Proof.Machine.execInitializePanel s
  | .drawChar code x y color => Sys2Proof.Machine.execDrawChar code x y color s
  | .drawText plen x y color => Sys2Proof.Machine.execDrawText plen x y color s
  | .normalDisplayOn => Sys2Proof.Machine.execNormalDisplayOn s
  | .displayOn => Sys2Proof.Machine.execDisplayOn s
  | .reserved op => Sys2Proof.Machine.execReserved op s

end Sys2Proof.Machine
end

