-- ==== Sys2Proof/Machine/Request.lean ====
section
/-! DEFINITION. The requests of the abstract syntax (30_encoding.md R101): the trace, the program and
the check of each, over the same operations as the rows of the opcode table, with integers for
coordinates and the payload, the buffer and the string in the request itself; and the descriptor a
request is narrowed to (R103, R104, 92_eei_decisions.md D3). -/

namespace Sys2Proof.Machine

/-! ## The descriptor of a request -/

/-- A 16-bit descriptor field of an integer: its low 16 bits (R103). -/
def field16 (v : Int) : U16 := BitVec.ofInt 16 v

/-- An 8-bit operand in the low half of a 16-bit field, the upper 8 bits written as 0 (R104). -/
def field8 (v : Nat) : U16 := byteField (BitVec.ofNat 8 v)

/-- The PLEN field of a length: its low 32 bits (R103). -/
def fieldPlen (n : Nat) : U32 := BitVec.ofNat 32 n

/-- The payload stream a request comes with (R53, R104): the payload of sendCommand, the buffer of
blitBuffer, one code per byte of drawText. -/
def requestPayload (r : Request) : List Byte :=
  match r with
  | .sendCommand _ none => []
  | .sendCommand _ (some p) => p.toList
  | .setAddressWindow _ _ _ _ => []
  | .drawPixel _ _ _ => []
  | .fillRectangle _ _ _ _ _ => []
  | .fillScreen _ => []
  | .blitBuffer buffer _ _ _ _ => buffer
  | .hardReset => []
  | .softReset => []
  | .setSleep _ => []
  | .setInversion _ => []
  | .setColorMode _ => []
  | .setMemoryAccessMode _ _ => []
  | .initializePanel => []
  | .drawChar _ _ _ _ => []
  | .drawText string _ _ _ => string.map (BitVec.ofNat 8)

/-- The request word of a request, each operand narrowed to its field (R103, R104). -/
def requestDescriptor (r : Request) : ReqWord :=
  match r with
  | .sendCommand none p => requestWord 0x01 (flag0 false) 0 0 0 0 0 (fieldPlen (requestPayload (.sendCommand none p)).length)
  | .sendCommand (some op) p =>
    requestWord 0x01 (flag0 true) (byteField op) 0 0 0 0 (fieldPlen (requestPayload (.sendCommand (some op) p)).length)
  | .setAddressWindow x0 y0 x1 y1 => requestWord 0x02 0 (field16 x0) (field16 y0) (field16 x1) (field16 y1) 0 0
  | .drawPixel x y color => requestWord 0x03 0 (field16 x) (field16 y) 0 0 color 0
  | .fillRectangle x y w h color => requestWord 0x04 0 (field16 x) (field16 y) (field16 w) (field16 h) color 0
  | .fillScreen color => requestWord 0x05 0 0 0 0 0 color 0
  | .blitBuffer buffer x y w h =>
    requestWord 0x06 0 (field16 x) (field16 y) (field16 w) (field16 h) 0 (fieldPlen buffer.length)
  | .hardReset => requestWord 0x07 0 0 0 0 0 0 0
  | .softReset => requestWord 0x08 0 0 0 0 0 0 0
  | .setSleep enabled => requestWord 0x09 (flag0 enabled) 0 0 0 0 0 0
  | .setInversion enabled => requestWord 0x0A (flag0 enabled) 0 0 0 0 0 0
  | .setColorMode mode => requestWord 0x0B 0 (field8 mode) 0 0 0 0 0
  | .setMemoryAccessMode orientation isBgr => requestWord 0x0C (flag0 isBgr) (field8 orientation) 0 0 0 0 0
  | .initializePanel => requestWord 0x0D 0 0 0 0 0 0 0
  | .drawChar code x y color => requestWord 0x0E 0 (field16 x) (field16 y) (field8 code) 0 color 0
  | .drawText string x y color => requestWord 0x0F 0 (field16 x) (field16 y) 0 0 color (fieldPlen string.length)

/-- A request as the request port carries it: its descriptor and its payload stream (R33, R53). -/
def lower (r : Request) : Offer := { code := .request (requestDescriptor r), payload := requestPayload r }

/-! ## What a request does -/

/-- `expand(op, cfg)` of a request (00_scope.md R14); empty for one that is no operation. -/
def requestExpand (r : Request) (c : Cfg) : List Event :=
  match r with
  | .sendCommand none none => []
  | .sendCommand none (some p) => txn none (some p.toList)
  | .sendCommand (some op) none => txn (some op) none
  | .sendCommand (some op) (some p) => txn (some op) (some p.toList)
  | .setAddressWindow x0 y0 x1 y1 => expandSetAddressWindow c x0 y0 x1 y1
  | .drawPixel x y color => expandDrawPixel c x y color
  | .fillRectangle x y w h color => expandFill c x y w h color
  | .fillScreen color => expandFill c 0 0 c.width c.height color
  | .blitBuffer buffer x y w h => expandBlit c x y w h buffer
  | .hardReset => expandHardReset
  | .softReset => expandSoftReset
  | .setSleep enabled => expandSetSleep enabled
  | .setInversion enabled => expandSetInversion enabled
  | .setColorMode mode => expandSetColorMode (BitVec.ofNat 8 mode)
  | .setMemoryAccessMode orientation isBgr => expandSetMemoryAccessMode c.orientTable (BitVec.ofNat 8 orientation) isBgr
  | .initializePanel => expandInitialize c
  | .drawChar code x y color => expandDrawChar c code x y color
  | .drawText string x y color => expandDrawText c y color x string

/-- The program of a request: what the sequencer runs (R28). -/
def requestProgram (r : Request) (c : Cfg) : List Micro :=
  match r with
  | .sendCommand none none => []
  | .sendCommand none (some p) => emitAll (txn none (some p.toList))
  | .sendCommand (some op) none => emitAll (txn (some op) none)
  | .sendCommand (some op) (some p) => emitAll (txn (some op) (some p.toList))
  | .setAddressWindow x0 y0 x1 y1 => programWindow x0 y0 x1 y1
  | .drawPixel x y color => programDrawPixel x y color
  | .fillRectangle x y w h color => programFill c x y w h color
  | .fillScreen color => programFill c 0 0 c.width c.height color
  | .blitBuffer buffer x y w h => programRectangleWindow x y w h ++ emitAll (txn none (some buffer))
  | .hardReset => emitAll expandHardReset
  | .softReset => emitAll expandSoftReset
  | .setSleep enabled => emitAll (expandSetSleep enabled)
  | .setInversion enabled => emitAll (expandSetInversion enabled)
  | .setColorMode mode => emitAll (expandSetColorMode (BitVec.ofNat 8 mode))
  | .setMemoryAccessMode orientation isBgr =>
    emitAll (expandSetMemoryAccessMode c.orientTable (BitVec.ofNat 8 orientation) isBgr)
  | .initializePanel => programInitialize c
  | .drawChar code x y color => programDrawChar c code x y color
  | .drawText string x y color => programText c y color 0 x string

/-- The check of a request at acceptance (60_exceptions.md R220 to R222, R225, R226). -/
def requestViolation (r : Request) (c : Cfg) (l : Latches) : Option Violation :=
  match r with
  | .sendCommand none none => some (illegalRequest l)
  | .sendCommand none (some _) => none
  | .sendCommand (some _) _ => none
  | .setAddressWindow x0 y0 x1 y1 => windowViolation c x0 y0 x1 y1
  | .drawPixel x y _ => windowViolation c x y x y
  | .fillRectangle x y w h _ => rectangleViolation c x y w h
  | .fillScreen _ => none
  | .blitBuffer buffer x y w h => blitViolation c x y w h buffer.length
  | .hardReset => none
  | .softReset => none
  | .setSleep _ => none
  | .setInversion _ => none
  | .setColorMode _ => none
  | .setMemoryAccessMode _ _ => none
  | .initializePanel => none
  | .drawChar _ _ _ _ => textViolation c l
  | .drawText _ _ _ _ => textViolation c l

/-- The meaning of a request, its operand latches loaded. -/
def execRequest (r : Request) (s : State) : Result :=
  accept (.call r) (requestViolation r s.cfg s.latches) (requestProgram r s.cfg) s

end Sys2Proof.Machine
end

