-- ==== Sys2Proof/Machine/Sequencer.lean ====
section
/-! DEFINITION. The sequencer around the meanings: the trace and the program of every operation by
its name, fetching what the host asks for, and going on with a running operation (10_state.md R28,
R33; 20_memory.md R66). -/

namespace Sys2Proof.Machine

/-- `expand(op, cfg)`, the complete trace of an operation when nothing fails (00_scope.md R14), on
the payload stream it reads; empty for a request that is no operation. -/
def expand (i : Instr) (c : Cfg) (payload : List Byte) : List Event :=
  match i with
  | .wireSoftwareReset => frameWC opSoftwareReset
  | .wireSleepIn => frameWC opSleepIn
  | .wireSleepOut => frameWC opSleepOut
  | .wireNormalDisplayOn => frameWC opNormalDisplayOn
  | .wireInversionOff => frameWC opInversionOff
  | .wireInversionOn => frameWC opInversionOn
  | .wireDisplayOn => frameWC opDisplayOn
  | .wireMemoryWrite => frameWC opMemoryWrite
  | .wireColumnAddressSet start stop => frameWC4 opColumnAddressSet start stop
  | .wireRowAddressSet start stop => frameWC4 opRowAddressSet start stop
  | .wireMemoryAccessControl p => frameWC1 opMemoryAccessControl p
  | .wireColorMode p => frameWC1 opColorMode p
  | .wirePixelUnit r g b => framePixel (pixelColor r g b)
  | .sendCommandCmd opcode => expandSendCommand (some opcode) 0 payload
  | .sendCommandCmdData opcode plen => expandSendCommand (some opcode) plen payload
  | .sendCommandData plen => expandSendCommand none plen payload
  | .sendCommandNone => []
  | .setAddressWindow x0 y0 x1 y1 => expandSetAddressWindow c x0.toNat y0.toNat x1.toNat y1.toNat
  | .drawPixel x y color => expandDrawPixel c x.toNat y.toNat color
  | .fillRectangle x y w h color => expandFill c x.toNat y.toNat w.toNat h.toNat color
  | .fillScreen color => expandFill c 0 0 c.width c.height color
  | .blitBuffer x y w h plen => expandBlit c x.toNat y.toNat w.toNat h.toNat (payload.take plen.toNat)
  | .hardReset => expandHardReset
  | .softReset => expandSoftReset
  | .setSleep enabled => expandSetSleep enabled
  | .setInversion enabled => expandSetInversion enabled
  | .setColorMode mode => expandSetColorMode mode
  | .setMemoryAccessMode orientation isBgr => expandSetMemoryAccessMode c.orientTable orientation isBgr
  | .initializePanel => expandInitialize c
  | .drawChar code x y color => expandDrawChar c (charCode c code) x.toNat y.toNat color
  | .drawText plen x y color => expandDrawText c y.toNat color x.toNat ((payload.take plen.toNat).map (charCode c))
  | .normalDisplayOn => txn (some opNormalDisplayOn) none
  | .displayOn => txn (some opDisplayOn) none
  | .reserved _ => []

/-- The program each meaning starts, by the operation's name: what a running operation goes on with
(R28). -/
def program (i : Instr) (c : Cfg) (payload : List Byte) : List Micro :=
  match i with
  | .wireSoftwareReset => emitAll (frameWC opSoftwareReset)
  | .wireSleepIn => emitAll (frameWC opSleepIn)
  | .wireSleepOut => emitAll (frameWC opSleepOut)
  | .wireNormalDisplayOn => emitAll (frameWC opNormalDisplayOn)
  | .wireInversionOff => emitAll (frameWC opInversionOff)
  | .wireInversionOn => emitAll (frameWC opInversionOn)
  | .wireDisplayOn => emitAll (frameWC opDisplayOn)
  | .wireMemoryWrite => emitAll (frameWC opMemoryWrite)
  | .wireColumnAddressSet start stop => emitAll (frameWC4 opColumnAddressSet start stop)
  | .wireRowAddressSet start stop => emitAll (frameWC4 opRowAddressSet start stop)
  | .wireMemoryAccessControl p => emitAll (frameWC1 opMemoryAccessControl p)
  | .wireColorMode p => emitAll (frameWC1 opColorMode p)
  | .wirePixelUnit r g b => emitAll (framePixel (pixelColor r g b))
  | .sendCommandCmd opcode => programSendCommand (some opcode) 0 payload
  | .sendCommandCmdData opcode plen => programSendCommand (some opcode) plen payload
  | .sendCommandData plen => programSendCommand none plen payload
  | .sendCommandNone => []
  | .setAddressWindow x0 y0 x1 y1 => programWindow x0.toNat y0.toNat x1.toNat y1.toNat
  | .drawPixel x y color => programDrawPixel x.toNat y.toNat color
  | .fillRectangle x y w h color => programFill c x.toNat y.toNat w.toNat h.toNat color
  | .fillScreen color => programFill c 0 0 c.width c.height color
  | .blitBuffer x y w h plen => programBlit x.toNat y.toNat w.toNat h.toNat plen payload
  | .hardReset => emitAll expandHardReset
  | .softReset => emitAll expandSoftReset
  | .setSleep enabled => emitAll (expandSetSleep enabled)
  | .setInversion enabled => emitAll (expandSetInversion enabled)
  | .setColorMode mode => emitAll (expandSetColorMode mode)
  | .setMemoryAccessMode orientation isBgr => emitAll (expandSetMemoryAccessMode c.orientTable orientation isBgr)
  | .initializePanel => programInitialize c
  | .drawChar code x y color => programDrawChar c (charCode c code) x.toNat y.toNat color
  | .drawText plen x y color => programDrawText c plen x.toNat y.toNat color payload
  | .normalDisplayOn => emitAll (txn (some opNormalDisplayOn) none)
  | .displayOn => emitAll (txn (some opDisplayOn) none)
  | .reserved _ => []

/-- The check each meaning makes at acceptance, by the operation's name (60_exceptions.md R225, R226). -/
def violation (i : Instr) (c : Cfg) (l : Latches) : Option Violation :=
  match i with
  | .wireSoftwareReset => none
  | .wireSleepIn => none
  | .wireSleepOut => none
  | .wireNormalDisplayOn => none
  | .wireInversionOff => none
  | .wireInversionOn => none
  | .wireDisplayOn => none
  | .wireMemoryWrite => none
  | .wireColumnAddressSet _ _ => none
  | .wireRowAddressSet _ _ => none
  | .wireMemoryAccessControl _ => none
  | .wireColorMode _ => none
  | .wirePixelUnit _ _ _ => none
  | .sendCommandCmd _ => none
  | .sendCommandCmdData _ _ => none
  | .sendCommandData plen => sendCommandViolation none plen l
  | .sendCommandNone => some (illegalRequest l)
  | .setAddressWindow x0 y0 x1 y1 => windowViolation c x0.toNat y0.toNat x1.toNat y1.toNat
  | .drawPixel x y _ => windowViolation c x.toNat y.toNat x.toNat y.toNat
  | .fillRectangle x y w h _ => rectangleViolation c x.toNat y.toNat w.toNat h.toNat
  | .fillScreen _ => none
  | .blitBuffer x y w h plen => blitViolation c x.toNat y.toNat w.toNat h.toNat plen.toNat
  | .hardReset => none
  | .softReset => none
  | .setSleep _ => none
  | .setInversion _ => none
  | .setColorMode _ => none
  | .setMemoryAccessMode _ _ => none
  | .initializePanel => none
  | .drawChar _ _ _ _ => textViolation c l
  | .drawText _ _ _ _ => textViolation c l
  | .normalDisplayOn => none
  | .displayOn => none
  | .reserved _ => some (illegalRequest l)

/-- The payload bytes an operation reads from the PAYLOAD stream (R68, R104). -/
def payloadNeeded (i : Instr) : Nat :=
  match i with
  | .sendCommandCmdData _ plen => plen.toNat
  | .sendCommandData plen => plen.toNat
  | .blitBuffer _ _ _ _ plen => plen.toNat
  | .drawText plen _ _ _ => plen.toNat
  | _ => 0

/-! ## An operation of either kind (R28) -/

/-- `expand(op, cfg)` (00_scope.md R14). -/
def opExpand (op : Op) (c : Cfg) (payload : List Byte) : List Event :=
  match op with
  | .row i => expand i c payload
  | .call r => requestExpand r c

/-- The program the sequencer runs. -/
def opProgram (op : Op) (c : Cfg) (payload : List Byte) : List Micro :=
  match op with
  | .row i => program i c payload
  | .call r => requestProgram r c

/-- The check at acceptance. -/
def opViolation (op : Op) (c : Cfg) (l : Latches) : Option Violation :=
  match op with
  | .row i => violation i c l
  | .call r => requestViolation r c l

/-- The payload bytes an operation still needs from the PAYLOAD stream; a request of the abstract
syntax carries its own. -/
def opPayloadNeeded (op : Op) : Nat :=
  match op with
  | .row i => payloadNeeded i
  | .call _ => 0

/-- The meaning of an operation. -/
def execOp (op : Op) (s : State) : Result :=
  match op with
  | .row i => exec i s
  | .call r => execRequest r s

/-! ## The step -/

/-- Take what the host asks for and execute it (R33, R66): an encoded request as what it decodes to, a
request of the abstract syntax as itself. Either way the operand latches and the payload stream are
loaded with what the request port carries for it (R27, R53). -/
def fetch (a : Ask) (s : State) : Result :=
  match a with
  | .coded o =>
    match decode o.code with
    | .ok i => exec i (takeOffer o s)
    | .error why => .refused (.notAFrame why)
  | .call r => execRequest r (takeOffer (lower r) s)

/-- Go on with the running operation, of whose events `k` have been emitted (R14, R28): to its end,
or by one event. -/
def resume (op : Op) (k : Nat) (s : State) : Result :=
  match s.grain with
  | .operation => runMicros op (afterEvents k (opProgram op s.cfg s.payload)) (settleWait s)
  | .event =>
    if s.timer = 0 then runOneEvent op (afterEvents k (opProgram op s.cfg s.payload)) s else .next (tick s)

/-- One step of the block. Block reset comes first (R250). In IDLE the request presented is taken,
and with none the block waits (R28, R250). While an operation runs it goes on. In FAULTED nothing
happens until block reset (60_exceptions.md R227). -/
def stepBlock (s : State) : Result :=
  if s.resetIn then .next (blockReset s)
  else
    match s.seq with
    | .idle =>
      match s.inbox with
      | [] => .next s
      | a :: rest => fetch a { s with inbox := rest }
    | .run op k => resume op k s
    | .faulted => .next s

/-! ## Placing an instruction where the next step takes it -/

/-- The payload stream a table row is given: PLEN zero bytes for a request, none for a frame. -/
def zeroPayload : Code → List Byte
  | .request w => List.replicate (reqPlen w).toNat 0#8
  | .frame _ => []

/-- SEQ at IDLE with the flags that go with it, so that the next step looks at the request port. -/
def readyToFetch (s : State) : State :=
  match s.seq with
  | .idle => { s with resetIn := false }
  | .run _ _ => { s with seq := .idle, busy := false, resetIn := false }
  | .faulted =>
    { s with seq := .idle, busy := false, fault := false, faultCause := 0, faultInfo := 0, resetIn := false }

/-- The bits of a table row presented at the request port, ahead of whatever the host presents. -/
def placeWord (s : State) (nbits w : Nat) : State :=
  match layTable nbits w with
  | some code => { readyToFetch s with inbox := .coded ⟨code, zeroPayload code⟩ :: s.inbox }
  | none => s

end Sys2Proof.Machine
end

