-- ==== Sys2Proof/Machine/Views.lean ====
section
/-! DEFINITION. What the wire and the panel see of a trace (40_framing.md R126, R127). -/

namespace Sys2Proof.Machine

/-- The running pin levels of the walk (R126). -/
structure Pins where
  cs  : Bool
  dc  : Bool
  rst : Bool
  deriving DecidableEq, Repr

/-- The pin levels of block reset, where every trace begins (10_state.md R37, 00_scope.md R9,
notes/assumptions/24). -/
def resetPins (c : Cfg) : Pins := { cs := c.resetCs, dc := c.resetDc, rst := c.resetRst }

/-- An item of the wire view (R126). -/
inductive WireItem where
  | cs (asserted : Bool)
  | rst (level : Bool)
  | byte (dc : Bool) (b : Byte)
  | wait (ms : Nat)
  deriving DecidableEq, Repr

/-- `wire(trace)` (R126): a TX becomes its bytes tagged with the running PIN.DC, chip-select and
reset writes stay when they change the level, waits stay, and data/command writes leave no item.
Of a failed TX the bytes that reached the wire are seen (93_implementation_defined.md G3). -/
def wireView : Pins → List TraceEntry → List WireItem
  | _, [] => []
  | p, .done (.cs a) :: es =>
    if a = p.cs then wireView p es else .cs a :: wireView { p with cs := a } es
  | p, .done (.dc l) :: es => wireView { p with dc := l } es
  | p, .done (.rst l) :: es =>
    if l = p.rst then wireView p es else .rst l :: wireView { p with rst := l } es
  | p, .done (.tx bs) :: es => bs.map (WireItem.byte p.dc) ++ wireView p es
  | p, .done (.wait n) :: es => .wait n :: wireView p es
  | p, .failed bs sent :: es => (bs.take sent).map (WireItem.byte p.dc) ++ wireView p es

/-- An item of the panel view (R127): a command byte, a run of adjacent data bytes, a reset-line
write, a wait. -/
inductive PanelItem where
  | command (b : Byte)
  | data (bytes : List Byte)
  | rst (level : Bool)
  | wait (ms : Nat)
  deriving DecidableEq, Repr

/-- A data byte joins the run it stands before (R127). -/
def joinData (b : Byte) : List PanelItem → List PanelItem
  | .data bs :: ps => .data (b :: bs) :: ps
  | ps => .data [b] :: ps

/-- The wire items without chip-select, adjacent data bytes joined (R127). -/
def joinWire : List WireItem → List PanelItem
  | [] => []
  | .cs _ :: ws => joinWire ws
  | .rst l :: ws => .rst l :: joinWire ws
  | .byte false b :: ws => .command b :: joinWire ws
  | .byte true b :: ws => joinData b (joinWire ws)
  | .wait n :: ws => .wait n :: joinWire ws

/-- `panel(trace)` of a trace that begins at the pin levels `p` (R127). -/
def panelView (p : Pins) (trace : List TraceEntry) : List PanelItem := joinWire (wireView p trace)

/-- The data bytes of a panel view, in order. -/
def panelData : List PanelItem → List Byte
  | [] => []
  | .data bs :: ps => bs ++ panelData ps
  | .command _ :: ps => panelData ps
  | .rst _ :: ps => panelData ps
  | .wait _ :: ps => panelData ps

end Sys2Proof.Machine
end

