-- ==== Sys2Proof/Machine/Step.lean ====
section
/-! DEFINITION. The step of the machine and the placing of a table row for it (10_state.md R28). -/

namespace Sys2Proof.Machine

/-- One step (R28). -/
def step : State → Host.Outcome State Fault Refusal := stepBlock

/-- `s` with the instruction of a table row presented at the request port, so that the next step
takes and runs it. The row's payload is PLEN zero bytes (notes/assumptions/8). -/
def State.withFetchWord (s : State) (nbits w : Nat) : State := placeWord s nbits w

end Sys2Proof.Machine
end

