-- ==== Sys2Proof/Safety.lean ====
section
/-! DEFINITION. The terms in which claims about the machine are stated: when an operation can be
accepted and run to its end, the state it leaves, the invariants, and the framing of a trace. -/

namespace Sys2Proof.Machine

/-- Every answer the transport gives is ok: the premise of a claim of completion
(93_implementation_defined.md G4). -/
def AnswersOk (answers : List TxAnswer) : Prop := ∀ a ∈ answers, a = TxAnswer.ok

/-- The block can accept a request: SEQ is IDLE (10_state.md R33) and the configuration is one the
spec admits (92_eei_decisions.md D6). -/
def CanAccept (s : State) : Prop := s.seq = .idle ∧ cfgLegal s.cfg = true

/-- The block can accept a request and a step runs it to its end with every TX answered ok. -/
def CanRun (s : State) : Prop := CanAccept s ∧ s.grain = .operation ∧ AnswersOk s.transport

/-- The number of TX events of a trace. -/
def txCount : List Event → Nat
  | [] => 0
  | .tx _ :: es => txCount es + 1
  | .cs _ :: es => txCount es
  | .dc _ :: es => txCount es
  | .rst _ :: es => txCount es
  | .wait _ :: es => txCount es

/-- The trace entries of events emitted and applied. -/
def done (es : List Event) : List TraceEntry := es.map .done

/-- The state an operation of trace `es` leaves when it has run to its end: SEQ back at IDLE, the
events in the trace, one transport answer taken by each TX, chip-select de-asserted, no wait being
counted, AW holding no value for the next operation; everything else as it was. What else an
operation writes is added by the statement about it. -/
def closed (s : State) (es : List Event) : State :=
  { s with
    seq := .idle
    busy := false
    awValid := false
    timer := 0
    pinCs := false
    trace := s.trace ++ done es
    transport := s.transport.drop (txCount es) }

/-- AW after the window (x0, y0, x1, y1) has been written (10_state.md R26, R60). -/
def windowLatches (c : Cfg) (x0 y0 x1 y1 : Int) : AddressWindow :=
  { xs := physical x0 c.xOffset, xe := physical x1 c.xOffset, ys := physical y0 c.yOffset,
    ye := physical y1 c.yOffset }

/-- The state a fault taken at acceptance leaves: fault entry and nothing else (60_exceptions.md R224). -/
def faultedAtAcceptance (s : State) (cause : BitVec 4) (info : U32) : State :=
  { s with seq := .faulted, fault := true, busy := false, faultCause := cause, faultInfo := info }

/-! ## Invariants -/

/-- SEQ is RUN(op, k). -/
def isRunning : Seq → Bool
  | .idle => false
  | .run _ _ => true
  | .faulted => false

/-- SEQ is FAULTED. -/
def isFaulted : Seq → Bool
  | .idle => false
  | .run _ _ => false
  | .faulted => true

/-- The status flags and the fault registers agree with SEQ, and the delay timer fits its 10 bits
(10_state.md R31, R32; 60_exceptions.md R232). -/
def StatusInv (s : State) : Prop :=
  s.busy = isRunning s.seq ∧ s.fault = isFaulted s.seq ∧
    (s.fault = false → s.faultCause = 0 ∧ s.faultInfo = 0) ∧
    (s.fault = true → 1 ≤ s.faultCause.toNat ∧ s.faultCause.toNat ≤ 4) ∧
    s.timer ≤ 500

/-- The number of events of a program. -/
def eventCount (ms : List Micro) : Nat := ms.countP isEvent

/-- `0 <= k <= len`: SEQ never stands past the last event of the running operation (10_state.md R28). -/
def PositionInv (s : State) : Prop :=
  match s.seq with
  | .run op k => k ≤ eventCount (opProgram op s.cfg s.payload)
  | .idle => True
  | .faulted => True

/-- A program reads AW before it writes it. -/
def readsWindowFirst : List Micro → Bool
  | [] => false
  | .columnPayload :: _ => true
  | .rowPayload :: _ => true
  | .window _ _ _ _ :: _ => false
  | .glyphPixel _ _ _ _ :: _ => false
  | .emit _ :: ms => readsWindowFirst ms
  | .remaining _ :: ms => readsWindowFirst ms
  | .cursor _ _ :: ms => readsWindowFirst ms
  | .awaitPayload :: ms => readsWindowFirst ms

/-- The part of a program that has been run once `k` events are emitted: up to event number `k - 1`. -/
def upToEvents : Nat → List Micro → List Micro
  | 0, _ => []
  | _ + 1, [] => []
  | k + 1, m :: ms => m :: (if isEvent m then upToEvents k ms else upToEvents (k + 1) ms)

/-- The window a micro step writes to AW, if it writes one. -/
def windowOf (c : Cfg) : Micro → Option AddressWindow
  | .window x0 y0 x1 y1 => some (windowLatches c x0 y0 x1 y1)
  | .glyphPixel x y row col => some (windowLatches c (x + col) (y + row) (x + col) (y + row))
  | .emit _ => none
  | .columnPayload => none
  | .rowPayload => none
  | .remaining _ => none
  | .cursor _ _ => none
  | .awaitPayload => none

/-- The last window a program writes. -/
def lastWindow (c : Cfg) : List Micro → Option AddressWindow
  | [] => none
  | m :: ms =>
    match lastWindow c ms with
    | some w => some w
    | none => windowOf c m

/-- Where the rest of the running operation reads AW before writing it, the operation has already
written it, and AW holds the window it wrote last (10_state.md R26). -/
def WindowInv (s : State) : Prop :=
  match s.seq with
  | .run op k =>
    readsWindowFirst (afterEvents k (opProgram op s.cfg s.payload)) = true →
      s.awValid = true ∧ lastWindow s.cfg (upToEvents k (opProgram op s.cfg s.payload)) = some s.aw
  | .idle => True
  | .faulted => True

/-- A program opens a window outside the panel before its next event. -/
def opensBadWindow (c : Cfg) : List Micro → Bool
  | [] => false
  | .window x0 y0 x1 y1 :: ms => !inWindow c x0 y0 x1 y1 || opensBadWindow c ms
  | .glyphPixel x y row col :: ms =>
    !inWindow c (x + col) (y + row) (x + col) (y + row) || opensBadWindow c ms
  | .emit _ :: _ => false
  | .columnPayload :: _ => false
  | .rowPayload :: _ => false
  | .remaining _ :: ms => opensBadWindow c ms
  | .cursor _ _ :: ms => opensBadWindow c ms
  | .awaitPayload :: _ => false

/-! ## The framing of a trace -/

/-- Where a walk along the events of an operation stands: chip-select, the data/command line, and
the TX events of the open transaction. -/
structure Bracket where
  cs  : Bool
  dc  : Bool
  txs : Nat
  deriving DecidableEq, Repr

/-- One event of a well-framed trace (10_state.md R36): CS(1) and CS(0) alternate, a TX needs
chip-select asserted and at least one byte, and a TX with the line low is one byte and the first of
its transaction. -/
def bracketStep (b : Bracket) : Event → Option Bracket
  | .cs true => if b.cs then none else some { b with cs := true, txs := 0 }
  | .cs false => if b.cs then some { b with cs := false } else none
  | .dc l => some { b with dc := l }
  | .tx bs =>
    if b.cs && !bs.isEmpty && (b.dc || (bs.length == 1 && b.txs == 0)) then some { b with txs := b.txs + 1 }
    else none
  | .rst _ => some b
  | .wait _ => some b

/-- The walk along a list of events. -/
def bracketWalk (b : Bracket) : List Event → Option Bracket
  | [] => some b
  | e :: es =>
    match bracketStep b e with
    | some b' => bracketWalk b' es
    | none => none

/-- A trace is well framed from a state in which chip-select is de-asserted and ends so (R36). -/
def wellFramed (dc : Bool) (es : List Event) : Bool :=
  match bracketWalk { cs := false, dc := dc, txs := 0 } es with
  | some b => !b.cs
  | none => false

/-! ## Observations -/

/-- The pins, the sequencer, the flags, the fault registers and the trace: what R24, R28, R31, R32
and R20 say can be seen of the block. -/
structure Observation where
  ports : Ports
  seq   : Seq
  trace : List TraceEntry
  deriving DecidableEq, Repr

/-- What is seen of a state. -/
def observe (s : State) : Observation := { ports := ports s, seq := s.seq, trace := s.trace }

/-- What is seen of a result; `none` for a stop. -/
def observeResult : Result → Option Observation
  | .next s => some (observe s)
  | .fault _ => none
  | .refused _ => none

/-- The milliseconds of the waits of a trace, in order. -/
def waits : List Event → List Nat
  | [] => []
  | .wait n :: es => n :: waits es
  | .tx _ :: es => waits es
  | .cs _ :: es => waits es
  | .dc _ :: es => waits es
  | .rst _ :: es => waits es

/-- The pin levels after the events of a trace. -/
def pinsAfter (p : Pins) : List Event → Pins
  | [] => p
  | .cs a :: es => pinsAfter { p with cs := a } es
  | .dc l :: es => pinsAfter { p with dc := l } es
  | .rst l :: es => pinsAfter { p with rst := l } es
  | .tx _ :: es => pinsAfter p es
  | .wait _ :: es => pinsAfter p es

/-- The pin registers of a state. -/
def pinsOf (s : State) : Pins := { cs := s.pinCs, dc := s.pinDc, rst := s.pinRst }

/-- While an operation runs the pins are what the events emitted so far made of the levels it began
with (10_state.md R24, R30). -/
def PinsInv (s : State) : Prop :=
  match s.seq with
  | .run op k => ∃ p : Pins, pinsOf s = pinsAfter p ((opExpand op s.cfg s.payload).take k)
  | .idle => True
  | .faulted => True

/-- What the delay timer holds once an event has been emitted: WAIT(n) loads it with n
(60_exceptions.md R232). -/
def timerAfter : Event → Nat
  | .wait n => n
  | .tx _ => 0
  | .cs _ => 0
  | .dc _ => 0
  | .rst _ => 0

/-- The operations that drive the panel's reset line: hardReset, alone or inside initialize (R257). -/
def pulsesReset (op : Op) : Bool :=
  op == .row .hardReset || op == .row .initializePanel || op == .call .hardReset || op == .call .initializePanel

/-- The pixels of a cell at (x, y), as (row, column), all pass the window check (44_text.md R201). -/
def pixelsInWindow (c : Cfg) (x y : Int) (ps : List (Nat × Nat)) : Bool :=
  ps.all (fun p => inWindow c (x + p.2) (y + p.1) (x + p.2) (y + p.1))

/-- Every lit pixel of a string from a cursor on passes the check (R203). -/
def textInWindow (c : Cfg) (y : Int) : Int → List Nat → Bool
  | _, [] => true
  | cur, code :: codes =>
    pixelsInWindow c cur y (charPixels c.font code) && textInWindow c y (cur + c.font.charWidth) codes

/-- The character codes of a string of `plen` payload bytes, those the host has supplied (R104). -/
def textCodes (c : Cfg) (payload : List Byte) (plen : U32) : List Nat :=
  (payload.take plen.toNat).map (charCode c)

/-- Every lit pixel a text operation reaches passes its check; nothing to check for the others. -/
def textGeometryOk (i : Instr) (c : Cfg) (payload : List Byte) : Bool :=
  match i with
  | .drawChar code x y _ => pixelsInWindow c x.toNat y.toNat (charPixels c.font (charCode c code))
  | .drawText plen x y _ => textInWindow c y.toNat x.toNat (textCodes c payload plen)
  | _ => true

/-- The same for an operation of either kind. -/
def opGeometryOk (op : Op) (c : Cfg) (payload : List Byte) : Bool :=
  match op with
  | .row i => textGeometryOk i c payload
  | .call (.drawChar code x y _) => pixelsInWindow c x y (charPixels c.font code)
  | .call (.drawText string x y _) => textInWindow c y x string
  | .call _ => true

/-! ## What the descriptor can carry -/

/-- A descriptor field of 16 bits carries the integer (R103). -/
def fits16 (v : Int) : Bool := decide (0 ≤ v) && decide (v < 65536)

/-- A byte with CHAR_BITS carries the character code (R104). -/
def fitsCode (c : Cfg) (code : Nat) : Bool := decide (code < 256) && decide (code < 2 ^ c.charBits)

/-- The descriptor carries the request whole (R103): no operand is narrowed but for the mode and the
orientation, which lose nothing, "both are masked to fewer bits". -/
def requestFits (c : Cfg) (r : Request) : Bool :=
  match r with
  | .sendCommand _ _ => decide ((requestPayload r).length < 2 ^ 32)
  | .setAddressWindow x0 y0 x1 y1 => fits16 x0 && fits16 y0 && fits16 x1 && fits16 y1
  | .drawPixel x y _ => fits16 x && fits16 y
  | .fillRectangle x y w h _ => fits16 x && fits16 y && fits16 w && fits16 h
  | .blitBuffer buffer x y w h => fits16 x && fits16 y && fits16 w && fits16 h && decide (buffer.length < 2 ^ 32)
  | .drawChar code x y _ => fits16 x && fits16 y && fitsCode c code
  | .drawText string x y _ => fits16 x && fits16 y && string.all (fitsCode c) && decide (string.length < 2 ^ 32)
  | _ => true

/-! ## The traces of the rules, written out event by event -/

/-- The two wire bytes of a 16-bit quantity, most significant first (R11, R55). -/
def bytes16 (n : Nat) : List Byte := [BitVec.ofNat 8 (n / 256), BitVec.ofNat 8 n]

/-- A command with no payload (R121). -/
def traceCommand (op : Byte) : List Event := [.cs true, .dc false, .tx [op], .cs false]

/-- A command with a payload (R122). -/
def traceCommandData (op : Byte) (bs : List Byte) : List Event :=
  [.cs true, .dc false, .tx [op], .dc true, .tx bs, .cs false]

/-- A payload alone (R123). -/
def traceData (bs : List Byte) : List Event := [.cs true, .dc true, .tx bs, .cs false]

/-- The sixteen events of a window, logical corners (R164). -/
def traceWindow (c : Cfg) (x0 y0 x1 y1 : Nat) : List Event :=
  [.cs true, .dc false, .tx [0x2A], .dc true, .tx (bytes16 (x0 + c.xOffset) ++ bytes16 (x1 + c.xOffset)), .cs false,
    .cs true, .dc false, .tx [0x2B], .dc true, .tx (bytes16 (y0 + c.yOffset) ++ bytes16 (y1 + c.yOffset)), .cs false,
    .cs true, .dc false, .tx [0x2C], .cs false]

/-- `n` pixel units of one colour (R83). -/
def pixelBytes (color : U16) (n : Nat) : List Byte := (List.replicate n (bytes16 color.toNat)).flatten

/-- One pixel drawn (R165). -/
def tracePixel (c : Cfg) (x y : Nat) (color : U16) : List Event :=
  traceWindow c x y x y ++ traceData (bytes16 color.toNat)

/-- A rectangle filled (R167): the window, the full batches, and a partial one if units remain. -/
def traceFill (c : Cfg) (x y w h : Nat) (color : U16) : List Event :=
  traceWindow c x y (x + w - 1) (y + h - 1) ++
    (List.replicate (w * h / c.chunkPixels) (traceData (pixelBytes color c.chunkPixels))).flatten ++
    (if w * h % c.chunkPixels = 0 then [] else traceData (pixelBytes color (w * h % c.chunkPixels)))

/-- Entry `n` modulo 8 of the orientation table (R147, R148). -/
def tableByte (t : OrientTable) (n : Nat) : Byte :=
  [t.e0.byte, 0x40#8, t.e2.byte, 0xC0#8, t.e4.byte, t.e5.byte, t.e6.byte, t.e7.byte].getD (n % 8) 0

/-- The panel reset pulse (R140). -/
def traceHardReset : List Event :=
  [.cs true, .rst true, .wait 50, .rst false, .wait 50, .rst true, .wait 150, .cs false]

/-- The thirteen steps of initialize (R190). -/
def traceInitialize (c : Cfg) : List Event :=
  traceHardReset ++ traceCommand 0x01 ++ [.wait 150] ++ traceCommand 0x11 ++
    traceCommandData 0x3A [c.initColorMode &&& 0x77] ++ [.wait 50] ++
    traceCommandData 0x36 [memoryAccessByte c.orientTable c.initOrientation c.initBgr] ++ traceCommand 0x21 ++
    [.wait 10] ++ traceCommand 0x13 ++ [.wait 10] ++ traceFill c 0 0 c.width c.height c.initFillColor ++
    traceCommand 0x29 ++ [.wait 500]

/-- The pixels of one character, in order, with the cell at (x, y) (R201). -/
def traceChar (c : Cfg) (code : Nat) (x y : Nat) (color : U16) : List Event :=
  (charPixels c.font code).flatMap (fun p => tracePixel c (x + p.2) (y + p.1) color)

/-- The characters of a string in order, the cursor moving by CHAR_WIDTH (R203). -/
def traceText (c : Cfg) (y : Nat) (color : U16) : Nat → List Nat → List Event
  | _, [] => []
  | cur, code :: codes =>
    traceChar c code cur y color ++ traceText c y color (cur + c.font.charWidth) codes

/-- The lit pixels of a string from a cursor on, in order, each as the cell's cursor with the pixel's
row and column (R201, R203). -/
def textPixels (c : Cfg) : Nat → List Nat → List (Nat × Nat × Nat)
  | _, [] => []
  | cur, code :: codes =>
    (charPixels c.font code).map (fun p => (cur, p.1, p.2)) ++ textPixels c (cur + c.font.charWidth) codes

/-- The state a geometry fault at the pixel (px, py) leaves after the lit pixels `drawn` of cells at
row y (60_exceptions.md R224, R226): the events of the pixels drawn are in the trace, the pins and AW
are as the last of them left them, and everything fault entry does not write stays. The work
counters are as `work` says. -/
def faultedInText (s : State) (color : U16) (y : Nat) (drawn : List (Nat × Nat × Nat)) (px py : Nat)
    (work : Work) : State :=
  { s with
    seq := .faulted
    busy := false
    fault := true
    faultCause := 2
    faultInfo := BitVec.ofNat 16 px ++ BitVec.ofNat 16 py
    timer := 0
    work := work
    trace := s.trace ++ done (drawn.flatMap (fun q => tracePixel s.cfg (q.1 + q.2.2) (y + q.2.1) color))
    transport :=
      s.transport.drop (txCount (drawn.flatMap (fun q => tracePixel s.cfg (q.1 + q.2.2) (y + q.2.1) color)))
    pinCs := if drawn.isEmpty then s.pinCs else false
    pinDc := if drawn.isEmpty then s.pinDc else true
    awValid := !drawn.isEmpty
    aw :=
      match drawn.getLast? with
      | none => s.aw
      | some q => windowLatches s.cfg (q.1 + q.2.2) (y + q.2.1) (q.1 + q.2.2) (y + q.2.1) }

/-- The number of events before the TX that needs the payload stream (20_memory.md R66,
93_implementation_defined.md G9): the command phase and the raised line of a sendCommand, the window
and the raised line of a blitBuffer, and for drawText the events of the characters supplied. -/
def eventsBeforePayload (i : Instr) (c : Cfg) (payload : List Byte) : Nat :=
  match i with
  | .sendCommandCmdData _ _ => 4
  | .sendCommandData _ => 2
  | .blitBuffer _ _ _ _ _ => 18
  | .drawText plen x y color => (traceText c y.toNat color x.toNat (textCodes c payload plen)).length
  | _ => 0

/-! ## Counts (70_reset_and_hazards.md R272) -/

/-- Events, transactions, command bytes and data bytes of a trace. -/
structure Counts where
  events       : Nat
  transactions : Nat
  commandBytes : Nat
  dataBytes    : Nat
  deriving DecidableEq, Repr

/-- The transactions of a trace: its `CS(1)` events. -/
def transactionCount (es : List Event) : Nat := es.countP (fun e => e == .cs true)

/-- The bytes sent with the line at `level`, the line starting at `dc`. -/
def bytesAtLevel (level : Bool) : Bool → List Event → Nat
  | _, [] => 0
  | _, .dc l :: es => bytesAtLevel level l es
  | dc, .tx bs :: es => (if dc = level then bs.length else 0) + bytesAtLevel level dc es
  | dc, .cs _ :: es => bytesAtLevel level dc es
  | dc, .rst _ :: es => bytesAtLevel level dc es
  | dc, .wait _ :: es => bytesAtLevel level dc es

/-- The counts of a trace, the data/command line starting high as at reset. -/
def counts (es : List Event) : Counts :=
  { events := es.length, transactions := transactionCount es, commandBytes := bytesAtLevel false true es,
    dataBytes := bytesAtLevel true true es }

/-- `ceil(n / chunk)` (R272). -/
def ceilDiv (n chunk : Nat) : Nat := (n + chunk - 1) / chunk

/-- The state with another CHUNK_PIXELS (R168). -/
def withChunk (s : State) (n : Nat) : State := { s with cfg := { s.cfg with chunkPixels := n } }

end Sys2Proof.Machine
end

