-- ==== Sys2Proof/Certificates/Slice0/Obligations.lean ====
section
/-! DEFINITION. The statements about the model. Each docstring names the rules of spec/ it rests on. -/

open Sys2Proof Sys2Proof.Machine

/-! ## Reset, the step and the request port -/

/-- R37, R250, R251, R9: block reset, whatever the block is doing, leaves the reset values, the pins
their configured reset levels, and CFG as it was. The latches, AW and the counters hold no value then,
and the statement names none. -/
def Obligations.BlockResetLeavesResetValues : Prop :=
  ∀ s : State, s.resetIn = true → ∃ t, step s = .next t ∧
    t.seq = .idle ∧ t.busy = false ∧ t.ready = false ∧ t.fault = false ∧ t.faultCause = 0 ∧ t.faultInfo = 0 ∧
    t.pinCs = s.cfg.resetCs ∧ t.pinDc = s.cfg.resetDc ∧ t.pinRst = s.cfg.resetRst ∧ t.trace = [] ∧ t.cfg = s.cfg

/-- R37, R250: the same values in the reset state; the four invariants hold there. -/
def Obligations.ResetStateHasResetValues : Prop :=
  State.reset.seq = .idle ∧ State.reset.busy = false ∧ State.reset.ready = false ∧ State.reset.fault = false ∧
    State.reset.faultCause = 0 ∧ State.reset.faultInfo = 0 ∧ State.reset.pinCs = false ∧
    State.reset.pinDc = true ∧ State.reset.pinRst = true ∧ State.reset.trace = [] ∧
    StatusInv State.reset ∧ PositionInv State.reset ∧ WindowInv State.reset ∧ PinsInv State.reset

/-- R27, R28, R33, R66, R250: in IDLE the step takes the request presented, latches its fields and its
payload stream, and executes the instruction it decodes to, or the request of the abstract syntax
itself; with none presented the block waits. The operand latches are the fields of the request word,
and taking a request writes nothing but them, the payload stream and the port. That they are loaded
before the checks, so also for a request that is then rejected, is the model's choice
(notes/assumptions/16); so are a frame as a thing to be taken, which leaves the latches
(notes/assumptions/6), the list of requests (notes/assumptions/8, notes/assumptions/23) and the latches
of a request of the abstract syntax (notes/assumptions/25). -/
def Obligations.StepRunsTheDecodedInstruction : Prop :=
  (∀ (s : State) (o : Offer) (rest : List Ask) (i : Instr),
    s.resetIn = false → s.seq = .idle → s.inbox = .coded o :: rest → decode o.code = .ok i →
    step s = exec i (takeOffer o { s with inbox := rest })) ∧
  (∀ (s : State) (r : Request) (rest : List Ask),
    s.resetIn = false → s.seq = .idle → s.inbox = .call r :: rest →
    step s = execRequest r (takeOffer (lower r) { s with inbox := rest })) ∧
  (∀ s : State, s.resetIn = false → s.seq = .idle → s.inbox = [] → step s = .next s) ∧
  (∀ (s : State) (w : ReqWord) (bs : List Byte),
    takeOffer ⟨.request w, bs⟩ s =
      { s with
        latches :=
          { op := w.extractLsb' 120 8, flags := w.extractLsb' 112 8, a := w.extractLsb' 96 16,
            b := w.extractLsb' 80 16, c := w.extractLsb' 64 16, d := w.extractLsb' 48 16,
            e := w.extractLsb' 32 16, plen := w.extractLsb' 0 32 }
        payload := bs }) ∧
  (∀ (s : State) (fs : List (Bool × Byte)) (bs : List Byte),
    takeOffer ⟨.frame fs, bs⟩ s = { s with payload := bs })

/-- R101, R103, D3: a request of the abstract syntax that its descriptor carries whole does exactly
what the step on that descriptor and payload stream does. -/
def Obligations.RequestsRunAsTheirDescriptors : Prop :=
  ∀ (r : Request) (s : State) (rest : List Ask),
    s.resetIn = false → s.seq = .idle → s.grain = .operation → requestFits s.cfg r = true →
    step { s with inbox := .call r :: rest } = step { s with inbox := .coded (lower r) :: rest }

/-- R258, R66: while an operation runs, or after a fault, no request is accepted: executing one
changes nothing, and a step takes none from the port. -/
def Obligations.NoRequestIsAcceptedOutsideIdle : Prop :=
  (∀ (op : Op) (s : State), s.seq ≠ .idle → execOp op s = .next s) ∧
    (∀ s t : State, s.seq ≠ .idle → step s = .next t → t.inbox = s.inbox)

/-- R227: FAULTED is left only by block reset, which clears FAULT, FAULT_CAUSE and FAULT_INFO. -/
def Obligations.FaultIsStickyUntilBlockReset : Prop :=
  (∀ s : State, s.seq = .faulted → s.resetIn = false → step s = .next s) ∧
    (∀ s t : State, s.seq = .faulted → s.resetIn = true → step s = .next t →
      t.seq = .idle ∧ t.fault = false ∧ t.faultCause = 0 ∧ t.faultInfo = 0) ∧
    (∀ s : State, s.seq = .faulted → (ports s).reqReady = false)

/-- D6, R7, R8: "Configurations outside the constraints are refused": WIDTH or HEIGHT 0, a sum with
its offset above 65536, CHUNK_PIXELS 0. Every other configuration is accepted, whatever its
orientation, BGR bit, colour mode or font. -/
def Obligations.IllegalConfigurationIsRefused : Prop :=
  ∀ (op : Op) (s : State), s.seq = .idle →
    ((s.cfg.width = 0 ∨ s.cfg.height = 0 ∨ 65536 < s.cfg.width + s.cfg.xOffset ∨
        65536 < s.cfg.height + s.cfg.yOffset ∨ s.cfg.chunkPixels = 0) →
      execOp op s = .refused .illegalConfiguration) ∧
    (1 ≤ s.cfg.width → 1 ≤ s.cfg.height → s.cfg.width + s.cfg.xOffset ≤ 65536 →
      s.cfg.height + s.cfg.yOffset ≤ 65536 → 1 ≤ s.cfg.chunkPixels →
      ∀ why : Refusal, execOp op s ≠ .refused why)

/-! ## Framing -/

/-- R84 to R90, R93, R121: each bare command frame is one transaction of its opcode. -/
def Obligations.BareCommandFramesRunToEnd : Prop :=
  ∀ s : State, CanRun s →
    exec .wireSoftwareReset s = .next { closed s (traceCommand 0x01) with pinDc := false } ∧
    exec .wireSleepIn s = .next { closed s (traceCommand 0x10) with pinDc := false } ∧
    exec .wireSleepOut s = .next { closed s (traceCommand 0x11) with pinDc := false } ∧
    exec .wireNormalDisplayOn s = .next { closed s (traceCommand 0x13) with pinDc := false } ∧
    exec .wireInversionOff s = .next { closed s (traceCommand 0x20) with pinDc := false } ∧
    exec .wireInversionOn s = .next { closed s (traceCommand 0x21) with pinDc := false } ∧
    exec .wireDisplayOn s = .next { closed s (traceCommand 0x29) with pinDc := false } ∧
    exec .wireMemoryWrite s = .next { closed s (traceCommand 0x2C) with pinDc := false }

/-- R82, R91, R92, R94, R95, R83: the frames with a payload, and the pixel unit. -/
def Obligations.PayloadFramesRunToEnd : Prop :=
  ∀ s : State, CanRun s →
    (∀ start stop : U16, exec (.wireColumnAddressSet start stop) s =
      .next { closed s (traceCommandData 0x2A (bytes16 start.toNat ++ bytes16 stop.toNat)) with pinDc := true }) ∧
    (∀ start stop : U16, exec (.wireRowAddressSet start stop) s =
      .next { closed s (traceCommandData 0x2B (bytes16 start.toNat ++ bytes16 stop.toNat)) with pinDc := true }) ∧
    (∀ p : Byte, exec (.wireMemoryAccessControl p) s =
      .next { closed s (traceCommandData 0x36 [p]) with pinDc := true }) ∧
    (∀ p : Byte, exec (.wireColorMode p) s =
      .next { closed s (traceCommandData 0x3A [p]) with pinDc := true }) ∧
    (∀ (r : BitVec 5) (g : BitVec 6) (b : BitVec 5), exec (.wirePixelUnit r g b) s =
      .next { closed s (traceData (bytes16 (r.toNat * 2048 + g.toNat * 32 + b.toNat))) with pinDc := true })

/-- R121, R144, R145: sendCommand with an opcode and no payload, every opcode alike (R98), and the
two pseudo-operations. -/
def Obligations.SendCommandWithOpcodeRunsToEnd : Prop :=
  ∀ s : State, CanRun s →
    (∀ opcode : Byte, exec (.sendCommandCmd opcode) s =
      .next { closed s (traceCommand opcode) with pinDc := false }) ∧
    exec .normalDisplayOn s = .next { closed s (traceCommand 0x13) with pinDc := false } ∧
    exec .displayOn s = .next { closed s (traceCommand 0x29) with pinDc := false }

/-- R122, R123: sendCommand with a payload, verbatim and as one TX whatever its length. -/
def Obligations.SendCommandWithPayloadRunsToEnd : Prop :=
  ∀ (s : State) (plen : U32), CanRun s → plen ≠ 0 → plen.toNat ≤ s.payload.length →
    (∀ opcode : Byte, exec (.sendCommandCmdData opcode plen) s =
      .next { closed s (traceCommandData opcode (s.payload.take plen.toNat)) with pinDc := true }) ∧
    exec (.sendCommandData plen) s =
      .next { closed s (traceData (s.payload.take plen.toNat)) with pinDc := true }

/-- R105, R124, R220: a request that is no operation is not executed: sendCommand with neither part
(an empty payload is an absent one), a reserved code, and a text request without HAS_TEXT raise
IllegalRequest and emit nothing, FAULT_INFO being OP, FLAGS and A as latched. An opcode with an
empty payload is the bare command. -/
def Obligations.RequestsThatAreNoOperationAreIllegal : Prop :=
  ∀ s : State, CanAccept s →
    exec .sendCommandNone s =
      .next (faultedAtAcceptance s 1 (s.latches.op ++ s.latches.flags ++ s.latches.a)) ∧
    exec (.sendCommandData 0) s =
      .next (faultedAtAcceptance s 1 (s.latches.op ++ s.latches.flags ++ s.latches.a)) ∧
    execRequest (.sendCommand none none) s =
      .next (faultedAtAcceptance s 1 (s.latches.op ++ s.latches.flags ++ s.latches.a)) ∧
    (∀ op : Byte, exec (.reserved op) s =
      .next (faultedAtAcceptance s 1 (s.latches.op ++ s.latches.flags ++ s.latches.a))) ∧
    (∀ (code : Byte) (x y color : U16), s.cfg.hasText = false → exec (.drawChar code x y color) s =
      .next (faultedAtAcceptance s 1 (s.latches.op ++ s.latches.flags ++ s.latches.a))) ∧
    (∀ (plen : U32) (x y color : U16), s.cfg.hasText = false → exec (.drawText plen x y color) s =
      .next (faultedAtAcceptance s 1 (s.latches.op ++ s.latches.flags ++ s.latches.a))) ∧
    (∀ (code : Nat) (string : List Nat) (x y : Int) (color : U16), s.cfg.hasText = false →
      execRequest (.drawChar code x y color) s =
        .next (faultedAtAcceptance s 1 (s.latches.op ++ s.latches.flags ++ s.latches.a)) ∧
      execRequest (.drawText string x y color) s =
        .next (faultedAtAcceptance s 1 (s.latches.op ++ s.latches.flags ++ s.latches.a))) ∧
    (∀ opcode : Byte, CanRun s → exec (.sendCommandCmdData opcode 0) s =
      .next { closed s (traceCommand opcode) with pinDc := false })

/-- R105, R220: the step on a request word that names no operation raises IllegalRequest before any
event, FAULT_INFO being bits 127:96 of the word. That the rejected word is loaded into the operand
latches all the same is the model's choice (notes/assumptions/16). -/
def Obligations.WordsThatNameNoOperationFault : Prop :=
  ∀ (s : State) (w : ReqWord) (bs : List Byte) (rest : List Ask),
    s.resetIn = false → CanAccept s → s.inbox = .coded ⟨.request w, bs⟩ :: rest →
    (w.extractLsb' 120 8 = 0x00#8 ∨ 0x10 ≤ (w.extractLsb' 120 8).toNat ∨
      (s.cfg.hasText = false ∧ (w.extractLsb' 120 8 = 0x0E#8 ∨ w.extractLsb' 120 8 = 0x0F#8)) ∨
      (w.extractLsb' 120 8 = 0x01#8 ∧ w.getLsbD 112 = false ∧ w.extractLsb' 0 32 = 0#32)) →
    step s = .next (faultedAtAcceptance (takeOffer ⟨.request w, bs⟩ { s with inbox := rest }) 1
      (w.extractLsb' 96 32))

/-- R125: the pins a transaction leaves. -/
def Obligations.TransactionLeavesThePins : Prop :=
  ∀ (p : Pins) (op : Byte) (bs : List Byte),
    pinsAfter p (txn (some op) none) = { cs := false, dc := false, rst := p.rst } ∧
    pinsAfter p (txn (some op) (some bs)) = { cs := false, dc := true, rst := p.rst } ∧
    pinsAfter p (txn none (some bs)) = { cs := false, dc := true, rst := p.rst }

/-! ## Panel control -/

/-- R140: hardReset, its eight events and its pins; the data/command line and READY are not touched. -/
def Obligations.HardResetRunsToEnd : Prop :=
  ∀ s : State, CanAccept s → s.grain = .operation →
    exec .hardReset s = .next { closed s traceHardReset with pinRst := true }

/-- R141: softReset, the 150 ms being part of the operation. -/
def Obligations.SoftResetRunsToEnd : Prop :=
  ∀ s : State, CanRun s →
    exec .softReset s = .next { closed s (traceCommand 0x01 ++ [.wait 150]) with pinDc := false }

/-- R142, R143: setSleep and setInversion send the enter or the exit opcode. -/
def Obligations.SleepAndInversionRunToEnd : Prop :=
  ∀ s : State, CanRun s →
    exec (.setSleep true) s = .next { closed s (traceCommand 0x10) with pinDc := false } ∧
    exec (.setSleep false) s = .next { closed s (traceCommand 0x11) with pinDc := false } ∧
    exec (.setInversion true) s = .next { closed s (traceCommand 0x21) with pinDc := false } ∧
    exec (.setInversion false) s = .next { closed s (traceCommand 0x20) with pinDc := false }

/-- R146, R97, R99: setColorMode sends the mode with bits 7 and 3 cleared, whatever the mode, the byte
of a descriptor or the natural number of the abstract syntax. -/
def Obligations.SetColorModeRunsToEnd : Prop :=
  ∀ s : State, CanRun s →
    (∀ mode : Byte, exec (.setColorMode mode) s =
      .next { closed s (traceCommandData 0x3A [mode &&& 0x77#8]) with pinDc := true }) ∧
    (∀ mode : Nat, execRequest (.setColorMode mode) s =
      .next { closed s (traceCommandData 0x3A [BitVec.ofNat 8 (mode &&& 0x77)]) with pinDc := true })

/-- R147, R96, R99: setMemoryAccessMode sends the table's entry for the orientation modulo 8, with the
BGR bit; every orientation is accepted. -/
def Obligations.SetMemoryAccessModeRunsToEnd : Prop :=
  ∀ (s : State) (isBgr : Bool), CanRun s →
    (∀ orientation : Byte, exec (.setMemoryAccessMode orientation isBgr) s =
      .next
        { closed s
            (traceCommandData 0x36
              [tableByte s.cfg.orientTable orientation.toNat ||| (if isBgr then 0x08#8 else 0x00#8)]) with
          pinDc := true }) ∧
    (∀ orientation : Nat, execRequest (.setMemoryAccessMode orientation isBgr) s =
      .next
        { closed s
            (traceCommandData 0x36
              [tableByte s.cfg.orientTable orientation ||| (if isBgr then 0x08#8 else 0x00#8)]) with
          pinDc := true })

/-- R99: masked operands never fault. Every colour mode and every orientation runs to its end, and
only the bits of the mask matter. -/
def Obligations.MaskedOperandsNeverFault : Prop :=
  ∀ s : State, CanRun s →
    (∀ mode : Byte, ∃ t, exec (.setColorMode mode) s = .next t ∧ t.fault = s.fault ∧ t.seq = .idle ∧
      t.trace = s.trace ++ done (traceCommandData 0x3A [mode &&& 0x77#8])) ∧
    (∀ (orientation : Byte) (isBgr : Bool), ∃ t u,
      exec (.setMemoryAccessMode orientation isBgr) s = .next t ∧
      exec (.setMemoryAccessMode (orientation &&& 7#8) isBgr) s = .next u ∧
      t.fault = s.fault ∧ t.seq = .idle ∧ t.trace = u.trace)

/-! ## Window and pixels -/

/-- R164: setAddressWindow on a window in the panel. -/
def Obligations.SetAddressWindowRunsToEnd : Prop :=
  ∀ (s : State) (x0 y0 x1 y1 : U16), CanRun s →
    x0.toNat ≤ x1.toNat → x1.toNat < s.cfg.width → y0.toNat ≤ y1.toNat → y1.toNat < s.cfg.height →
    exec (.setAddressWindow x0 y0 x1 y1) s =
      .next
        { closed s (traceWindow s.cfg x0.toNat y0.toNat x1.toNat y1.toNat) with
          pinDc := false
          aw := windowLatches s.cfg x0.toNat y0.toNat x1.toNat y1.toNat }

/-- R60, R162: a coordinate in the panel plus its offset is the 16-bit field itself, no bit lost. -/
def Obligations.PhysicalCoordinatesDoNotWrap : Prop :=
  ∀ (c : Cfg) (x y : Nat), cfgLegal c = true → x < c.width → y < c.height →
    (physical x c.xOffset).toNat = x + c.xOffset ∧ (physical y c.yOffset).toNat = y + c.yOffset

/-- R165: drawPixel. -/
def Obligations.DrawPixelRunsToEnd : Prop :=
  ∀ (s : State) (x y color : U16), CanRun s → x.toNat < s.cfg.width → y.toNat < s.cfg.height →
    exec (.drawPixel x y color) s =
      .next
        { closed s (tracePixel s.cfg x.toNat y.toNat color) with
          pinDc := true
          aw := windowLatches s.cfg x.toNat y.toNat x.toNat y.toNat }

/-- R167: fillRectangle on a rectangle in the panel. -/
def Obligations.FillRectangleRunsToEnd : Prop :=
  ∀ (s : State) (x y w h color : U16), CanRun s → 1 ≤ w.toNat → 1 ≤ h.toNat →
    x.toNat + w.toNat ≤ s.cfg.width → y.toNat + h.toNat ≤ s.cfg.height →
    exec (.fillRectangle x y w h color) s =
      .next
        { closed s (traceFill s.cfg x.toNat y.toNat w.toNat h.toNat color) with
          pinDc := true
          aw := windowLatches s.cfg x.toNat y.toNat (x.toNat + w.toNat - 1) (y.toNat + h.toNat - 1)
          work := { s.work with remaining := 0 } }

/-- R169: fillScreen never faults at acceptance and fills the whole panel. -/
def Obligations.FillScreenRunsToEnd : Prop :=
  ∀ (s : State) (color : U16), CanRun s →
    exec (.fillScreen color) s =
      .next
        { closed s (traceFill s.cfg 0 0 s.cfg.width s.cfg.height color) with
          pinDc := true
          aw := windowLatches s.cfg 0 0 (s.cfg.width - 1) (s.cfg.height - 1)
          work := { s.work with remaining := 0 } }

/-- R170: blitBuffer of a buffer of the right length, in one transaction. -/
def Obligations.BlitBufferRunsToEnd : Prop :=
  ∀ (s : State) (x y w h : U16) (plen : U32), CanRun s → 1 ≤ w.toNat → 1 ≤ h.toNat →
    x.toNat + w.toNat ≤ s.cfg.width → y.toNat + h.toNat ≤ s.cfg.height →
    plen.toNat = 2 * w.toNat * h.toNat → plen.toNat ≤ s.payload.length →
    exec (.blitBuffer x y w h plen) s =
      .next
        { closed s
            (traceWindow s.cfg x.toNat y.toNat (x.toNat + w.toNat - 1) (y.toNat + h.toNat - 1) ++
              traceData (s.payload.take plen.toNat)) with
          pinDc := true
          aw := windowLatches s.cfg x.toNat y.toNat (x.toNat + w.toNat - 1) (y.toNat + h.toNat - 1) }

/-- R163, R166, R221, R225, R226: a window or rectangle outside the panel raises InvalidGeometry at
acceptance, whatever the buffer's length, and nothing else changes; negative coordinates, which only
the abstract syntax has, are outside. -/
def Obligations.WindowsOutsideThePanelFault : Prop :=
  ∀ s : State, CanAccept s →
    (∀ x0 y0 x1 y1 : U16,
      ¬(x0.toNat ≤ x1.toNat ∧ x1.toNat < s.cfg.width ∧ y0.toNat ≤ y1.toNat ∧ y1.toNat < s.cfg.height) →
      exec (.setAddressWindow x0 y0 x1 y1) s = .next (faultedAtAcceptance s 2 (x0 ++ y0))) ∧
    (∀ x y color : U16, ¬(x.toNat < s.cfg.width ∧ y.toNat < s.cfg.height) →
      exec (.drawPixel x y color) s = .next (faultedAtAcceptance s 2 (x ++ y))) ∧
    (∀ x y w h : U16,
      ¬(1 ≤ w.toNat ∧ 1 ≤ h.toNat ∧ x.toNat + w.toNat ≤ s.cfg.width ∧ y.toNat + h.toNat ≤ s.cfg.height) →
      (∀ color : U16, exec (.fillRectangle x y w h color) s = .next (faultedAtAcceptance s 2 (x ++ y))) ∧
      (∀ plen : U32, exec (.blitBuffer x y w h plen) s = .next (faultedAtAcceptance s 2 (x ++ y)))) ∧
    (∀ x0 y0 x1 y1 : Int,
      ¬(0 ≤ x0 ∧ x0 ≤ x1 ∧ x1 < s.cfg.width ∧ 0 ≤ y0 ∧ y0 ≤ y1 ∧ y1 < s.cfg.height) →
      execRequest (.setAddressWindow x0 y0 x1 y1) s =
        .next (faultedAtAcceptance s 2 (BitVec.ofInt 16 x0 ++ BitVec.ofInt 16 y0))) ∧
    (∀ (x y : Int) (color : U16), ¬(0 ≤ x ∧ x < s.cfg.width ∧ 0 ≤ y ∧ y < s.cfg.height) →
      execRequest (.drawPixel x y color) s =
        .next (faultedAtAcceptance s 2 (BitVec.ofInt 16 x ++ BitVec.ofInt 16 y))) ∧
    (∀ x y w h : Int,
      ¬(1 ≤ w ∧ 1 ≤ h ∧ 0 ≤ x ∧ x + w ≤ s.cfg.width ∧ 0 ≤ y ∧ y + h ≤ s.cfg.height) →
      (∀ color : U16, execRequest (.fillRectangle x y w h color) s =
        .next (faultedAtAcceptance s 2 (BitVec.ofInt 16 x ++ BitVec.ofInt 16 y))) ∧
      (∀ buffer : List Byte, execRequest (.blitBuffer buffer x y w h) s =
        .next (faultedAtAcceptance s 2 (BitVec.ofInt 16 x ++ BitVec.ofInt 16 y))))

/-- R222, R225: a buffer of another length raises InvalidBuffer at acceptance, with FAULT_INFO = PLEN
(the low 32 bits of the length of a buffer that PLEN cannot hold, notes/assumptions/20). -/
def Obligations.BuffersOfAnotherLengthFault : Prop :=
  (∀ (s : State) (x y w h : U16) (plen : U32), CanAccept s → 1 ≤ w.toNat → 1 ≤ h.toNat →
    x.toNat + w.toNat ≤ s.cfg.width → y.toNat + h.toNat ≤ s.cfg.height →
    plen.toNat ≠ 2 * w.toNat * h.toNat →
    exec (.blitBuffer x y w h plen) s = .next (faultedAtAcceptance s 3 plen)) ∧
  (∀ (s : State) (x y w h : Nat) (buffer : List Byte), CanAccept s → 1 ≤ w → 1 ≤ h →
    x + w ≤ s.cfg.width → y + h ≤ s.cfg.height → buffer.length ≠ 2 * w * h →
    execRequest (.blitBuffer buffer x y w h) s =
      .next (faultedAtAcceptance s 3 (BitVec.ofNat 32 buffer.length)))

/-- R160: the packing formula on the channels as numbers; the three terms occupy disjoint bits. -/
def Obligations.Pack565TruncatesEachChannel : Prop :=
  ∀ r g b : Byte,
    (pack565 r g b).toNat =
      (((r.toNat &&& 0xF8) <<< 8) ||| ((g.toNat &&& 0xFC) <<< 3) ||| (b.toNat >>> 3)) ∧
    (pack565 r g b).toNat = r.toNat / 8 * 2048 + g.toNat / 4 * 32 + b.toNat / 8

/-- R168, R127: the panel's view of a fill does not depend on CHUNK_PIXELS, and it is the window frames
followed by the colour w*h times. -/
def Obligations.ChunkSizeIsInvisibleToThePanel : Prop :=
  (∀ (s t u : State) (p : Pins) (m n : Nat) (x y w h color : U16), CanRun s → 1 ≤ m → 1 ≤ n →
    exec (.fillRectangle x y w h color) (withChunk s m) = .next t →
    exec (.fillRectangle x y w h color) (withChunk s n) = .next u →
    panelView p t.trace = panelView p u.trace) ∧
  (∀ (c : Cfg) (p : Pins) (x y w h : Nat) (color : U16), 1 ≤ c.chunkPixels → 1 ≤ w → 1 ≤ h →
    panelView p (done (expandFill c x y w h color)) =
      panelView p (done (expandRectangleWindow c x y w h)) ++ [.data (pixelBytes color (w * h))])

/-! ## Initialization -/

/-- R190: initialize, its thirteen steps in order, READY set after the last event. That REMAINING is 0
at the end is the model's reading (notes/assumptions/17). -/
def Obligations.InitializeRunsToEnd : Prop :=
  ∀ s : State, CanRun s →
    exec .initializePanel s =
      .next
        { closed s (traceInitialize s.cfg) with
          pinDc := false
          pinRst := true
          ready := true
          aw := windowLatches s.cfg 0 0 (s.cfg.width - 1) (s.cfg.height - 1)
          work := { s.work with remaining := 0 } }

/-- R192: a second initialize is accepted like the first, clears READY, emits the same trace and sets
READY again. -/
def Obligations.InitializeCanBeRepeated : Prop :=
  (∀ s : State, CanRun s → ∃ t u, exec .initializePanel s = .next t ∧ exec .initializePanel t = .next u ∧
    t.ready = true ∧ u.ready = true ∧
    ∃ es, t.trace = s.trace ++ es ∧ u.trace = t.trace ++ es) ∧
  (∀ s : State, CanAccept s → s.grain = .event → ∃ t, exec .initializePanel s = .next t ∧
    t.ready = false ∧ t.busy = true ∧ t.seq = .run (.row .initializePanel) 0)

/-- R270, R263, R140, R141, R190: the delays of hardReset, softReset and initialize, in order, those
of initialize summing to 970 ms; no other operation waits. -/
def Obligations.DelaysAreTheTables : Prop :=
  (∀ (c : Cfg) (pl : List Byte), waits (expand .hardReset c pl) = [50, 50, 150] ∧
    waits (expand .softReset c pl) = [150] ∧
    waits (expand .initializePanel c pl) = [50, 50, 150, 150, 50, 10, 10, 500] ∧
    (waits (expand .initializePanel c pl)).sum = 970) ∧
  (∀ (i : Instr) (c : Cfg) (pl : List Byte), i ≠ .hardReset → i ≠ .softReset → i ≠ .initializePanel →
    waits (expand i c pl) = [])

/-- R31, R253: no operation but initialize changes READY; initialize leaves READY set exactly when it
has run to completion. -/
def Obligations.ReadyIsWrittenOnlyByInitialize : Prop :=
  (∀ (op : Op) (s t : State), isInitialize op = false → execOp op s = .next t → t.ready = s.ready) ∧
  (∀ (op : Op) (k : Nat) (s t : State), isInitialize op = false → resume op k s = .next t → t.ready = s.ready) ∧
  (∀ (op : Op) (s t : State), isInitialize op = true → CanAccept s → execOp op s = .next t →
    (t.seq = .idle → t.ready = true) ∧ (t.seq ≠ .idle → t.ready = false)) ∧
  (∀ (op : Op) (k : Nat) (s t : State), isInitialize op = true → s.seq = .run op k → resume op k s = .next t →
    (t.seq = .idle → t.ready = true) ∧ (t.seq ≠ .idle → t.ready = s.ready))

/-! ## Text -/

/-- R54, R201, R205: a character outside the font has no lit pixel, so it is skipped; the lit pixels
of one inside are the set bits of its glyph's row bytes, bit 7 being column 0, each once, rows
ascending and columns ascending within a row. -/
def Obligations.LitPixelsAreTheSetBits : Prop :=
  ∀ (f : Font) (code : Nat),
    ((code < f.startCode ∨ f.startCode + f.glyphs.length ≤ code) → charPixels f code = []) ∧
    (∀ rows : Vector Byte f.glyphHeight, f.startCode ≤ code → f.glyphs[code - f.startCode]? = some rows →
      (∀ row col : Nat, (row, col) ∈ charPixels f code ↔
        ∃ b, rows[row]? = some b ∧ col < 8 ∧ b.getLsbD (7 - col) = true)) ∧
    (charPixels f code).Pairwise (fun p q => p.1 < q.1 ∨ (p.1 = q.1 ∧ p.2 < q.2))

/-- R205: a character outside the font is skipped, whatever its place: no fault, and no placeholder,
for nothing is emitted. That the code is the low CHAR_BITS bits of the operand byte is the model's
choice (notes/assumptions/20). The skip inside drawText is in DrawTextRunsToEnd, that of a request of
the abstract syntax in EveryOperationEmitsItsExpansion. -/
def Obligations.UnsupportedCharacterIsSkipped : Prop :=
  ∀ (s : State) (code : Byte) (x y color : U16), CanRun s → s.cfg.hasText = true →
    (charCode s.cfg code < s.cfg.font.startCode ∨
      s.cfg.font.startCode + s.cfg.font.glyphs.length ≤ charCode s.cfg code) →
    exec (.drawChar code x y color) s = .next { closed s [] with pinCs := s.pinCs }

/-- R201: drawChar of a character whose lit pixels are all in the panel: one pixel drawn per lit
pixel, in order; a glyph with none emits nothing. That the code is the low CHAR_BITS bits of the
operand byte is the model's choice (notes/assumptions/20), and the values of ROW and COL at the end are
its reading (notes/assumptions/17). -/
def Obligations.DrawCharRunsToEnd : Prop :=
  ∀ (s : State) (code : Byte) (x y color : U16), CanRun s → s.cfg.hasText = true →
    pixelsInWindow s.cfg x.toNat y.toNat (charPixels s.cfg.font (charCode s.cfg code)) = true →
    exec (.drawChar code x y color) s =
      .next
        (match (charPixels s.cfg.font (charCode s.cfg code)).getLast? with
          | none => { closed s [] with pinCs := s.pinCs }
          | some p =>
            { closed s (traceChar s.cfg (charCode s.cfg code) x.toNat y.toNat color) with
              pinDc := true
              aw := windowLatches s.cfg (x.toNat + p.2) (y.toNat + p.1) (x.toNat + p.2) (y.toNat + p.1)
              work := { s.work with row := p.1, col := p.2 } })

/-- R203: drawText of a string whose lit pixels are all in the panel: the characters in order, the
cursor moving by CHAR_WIDTH after each; a string with no lit pixel, and the empty string, emit
nothing. AW, ROW and COL are those of the last lit pixel of the last character that has one, at that
character's cursor, and as they were when there is none. The values of the work counters at the end
are the model's reading (notes/assumptions/17), and that a code is the low CHAR_BITS bits of its byte
is its choice (notes/assumptions/20). -/
def Obligations.DrawTextRunsToEnd : Prop :=
  ∀ (s : State) (plen : U32) (x y color : U16), CanRun s → s.cfg.hasText = true →
    plen.toNat ≤ s.payload.length →
    textInWindow s.cfg y.toNat x.toNat (textCodes s.cfg s.payload plen) = true →
    exec (.drawText plen x y color) s =
      .next
        (match (textPixels s.cfg x.toNat (textCodes s.cfg s.payload plen)).getLast? with
          | none =>
            { closed s [] with
              pinCs := s.pinCs
              work := { s.work with chari := plen.toNat, cur := x.toNat + plen.toNat * s.cfg.font.charWidth } }
          | some (cur, row, col) =>
            { closed s (traceText s.cfg y.toNat color x.toNat (textCodes s.cfg s.payload plen)) with
              pinDc := true
              aw := windowLatches s.cfg (cur + col) (y.toNat + row) (cur + col) (y.toNat + row)
              work :=
                { s.work with
                  row := row
                  col := col
                  chari := plen.toNat
                  cur := x.toNat + plen.toNat * s.cfg.font.charWidth } })

/-- R201, R221, R224, R226: drawChar faults at the first lit pixel outside the panel, when it is
reached: the pixels before it are drawn and stay drawn, none after it is, and the pins, AW and READY
are as they were left. That ROW and COL are the offending pixel's is the model's reading
(notes/assumptions/17), and that the code is the low CHAR_BITS bits of the operand byte is its choice
(notes/assumptions/20). -/
def Obligations.DrawCharFaultsAtTheFirstPixelOutside : Prop :=
  ∀ (s : State) (code : Byte) (x y color : U16) (before after : List (Nat × Nat)) (p : Nat × Nat),
    CanRun s → s.cfg.hasText = true → charPixels s.cfg.font (charCode s.cfg code) = before ++ p :: after →
    pixelsInWindow s.cfg x.toNat y.toNat before = true →
    ¬(x.toNat + p.2 < s.cfg.width ∧ y.toNat + p.1 < s.cfg.height) →
    exec (.drawChar code x y color) s =
      .next
        (faultedInText s color y.toNat (before.map (fun q => (x.toNat, q.1, q.2))) (x.toNat + p.2) (y.toNat + p.1)
          { s.work with row := p.1, col := p.2 })

/-- R203, R224, R226: drawText faults likewise, at the first offending lit pixel of the first offending
character, and the rest of the string is not drawn; the pins, AW and READY are as they were left. That
the work counters are the offending pixel's is the model's reading (notes/assumptions/17), and that a code is the low CHAR_BITS bits of its byte is
its choice (notes/assumptions/20). -/
def Obligations.DrawTextFaultsAtTheFirstPixelOutside : Prop :=
  ∀ (s : State) (plen : U32) (x y color : U16) (good rest : List Nat) (code : Nat)
    (before after : List (Nat × Nat)) (p : Nat × Nat),
    CanRun s → s.cfg.hasText = true → textCodes s.cfg s.payload plen = good ++ code :: rest →
    textInWindow s.cfg y.toNat x.toNat good = true →
    charPixels s.cfg.font code = before ++ p :: after →
    pixelsInWindow s.cfg (x.toNat + good.length * s.cfg.font.charWidth) y.toNat before = true →
    ¬(x.toNat + good.length * s.cfg.font.charWidth + p.2 < s.cfg.width ∧ y.toNat + p.1 < s.cfg.height) →
    exec (.drawText plen x y color) s =
      .next
        (faultedInText s color y.toNat
          (textPixels s.cfg x.toNat good ++
            before.map (fun q => (x.toNat + good.length * s.cfg.font.charWidth, q.1, q.2)))
          (x.toNat + good.length * s.cfg.font.charWidth + p.2) (y.toNat + p.1)
          { s.work with
            row := p.1
            col := p.2
            chari := good.length
            cur := x.toNat + good.length * s.cfg.font.charWidth })

/-! ## Faults -/

/-- R224: fault entry, in one step; the pins, AW, the counters, READY and the trace stay. -/
def Obligations.FaultEntryWritesOnlyItsRegisters : Prop :=
  ∀ (v : Violation) (s : State),
    raise v s =
      { s with seq := .faulted, fault := true, busy := false, faultCause := causeCode v.cause, faultInfo := v.info } ∧
    causeCode .illegalRequest = 1 ∧ causeCode .invalidGeometry = 2 ∧ causeCode .invalidBuffer = 3 ∧
    causeCode .transportFailure = 4

/-- R223, R128: the operation stops at the TX the transport fails: it is in the trace, marked, with
the events before it and none after; no pin is restored; FAULT_INFO is the number of the event. -/
def Obligations.TransportFailureStopsInPlace : Prop :=
  ∀ (op : Op) (s : State) (sent : Nat) (answers : List TxAnswer) (before after : List Event) (bs : List Byte),
    CanAccept s → s.grain = .operation → opViolation op s.cfg s.latches = none →
    opPayloadNeeded op ≤ s.payload.length → opGeometryOk op s.cfg s.payload = true →
    opExpand op s.cfg s.payload = before ++ .tx bs :: after →
    s.transport = List.replicate (txCount before) TxAnswer.ok ++ .fail sent :: answers →
    ∃ t, execOp op s = .next t ∧
      t.trace = s.trace ++ done before ++ [.failed bs sent] ∧ pinsOf t = pinsAfter (pinsOf s) before ∧
      t.seq = .faulted ∧ t.fault = true ∧ t.busy = false ∧ t.faultCause = 4 ∧
      t.faultInfo = BitVec.ofNat 32 before.length ∧ t.ready = (if isInitialize op then false else s.ready) ∧
      t.transport = answers

/-! ## Whole-machine rules -/

/-- R14: an operation that passes its checks, a row of the opcode table or a request of the abstract
syntax, emits exactly its expansion and is complete. -/
def Obligations.EveryOperationEmitsItsExpansion : Prop :=
  ∀ (op : Op) (s : State), CanRun s → opViolation op s.cfg s.latches = none →
    opPayloadNeeded op ≤ s.payload.length → opGeometryOk op s.cfg s.payload = true →
    ∃ t, execOp op s = .next t ∧ t.seq = .idle ∧ t.busy = false ∧ t.fault = s.fault ∧
      t.trace = s.trace ++ done (opExpand op s.cfg s.payload) ∧
      pinsOf t = pinsAfter (pinsOf s) (opExpand op s.cfg s.payload) ∧
      t.ready = (if isInitialize op then true else s.ready)

/-- R28: at the event grain a request that passes its checks is accepted with no event emitted yet.
While it runs, AW holding the window it wrote last, a step with no wait being counted emits event
number k of its expansion and nothing else and moves to k + 1; it completes only when no event is
left; it faults only where the next window is outside the panel or the transport fails that event; it
waits only for payload bytes that the host has not supplied. -/
def Obligations.SequencerAdvancesOneEventAtATime : Prop :=
  (∀ (op : Op) (s : State), CanAccept s → s.grain = .event → opViolation op s.cfg s.latches = none →
    execOp op s =
      .next
        { s with
          seq := .run op 0
          busy := true
          awValid := false
          timer := 0
          ready := if isInitialize op then false else s.ready }) ∧
  (∀ (s : State) (op : Op) (k : Nat) (rest : List Micro), s.seq = .run op k → s.grain = .event →
    s.resetIn = false → s.timer = 0 → PositionInv s → WindowInv s →
    rest = afterEvents k (opProgram op s.cfg s.payload) →
    ∃ t, step s = .next t ∧
      ((opensBadWindow s.cfg rest = false ∧ 0 < eventCount rest ∧
          ∃ e, (opExpand op s.cfg s.payload)[k]? = some e ∧
            (∀ bs sent more, e = .tx bs → s.transport ≠ .fail sent :: more) ∧
            t.seq = .run op (k + 1) ∧ t.busy = s.busy ∧ t.trace = s.trace ++ [.done e] ∧
            pinsOf t = pinsAfter (pinsOf s) [e] ∧ t.timer = timerAfter e) ∨
        (opensBadWindow s.cfg rest = false ∧
          ∃ bs sent more, (opExpand op s.cfg s.payload)[k]? = some (.tx bs) ∧
            s.transport = .fail sent :: more ∧ t.seq = .faulted ∧ t.faultCause = 4 ∧
            t.faultInfo = BitVec.ofNat 32 k ∧ t.trace = s.trace ++ [.failed bs sent] ∧ pinsOf t = pinsOf s) ∨
        (opensBadWindow s.cfg rest = true ∧ t.seq = .faulted ∧ t.faultCause = 2 ∧ t.trace = s.trace ∧
          pinsOf t = pinsOf s) ∨
        (eventCount rest = 0 ∧ opPayloadNeeded op ≤ s.payload.length ∧ t.seq = .idle ∧ t.busy = false ∧
          t.trace = s.trace ∧ pinsOf t = pinsOf s) ∨
        (eventCount rest = 0 ∧ s.payload.length < opPayloadNeeded op ∧ t.seq = .run op k ∧ t.busy = s.busy ∧
          t.trace = s.trace ∧ pinsOf t = pinsOf s)))

/-- R232, R262: the step that emits WAIT(n) loads the delay timer with n, and a wait of n milliseconds
holds the sequencer for n ticks, during which no event is emitted and no pin changes. -/
def Obligations.WaitHoldsTheSequencerForItsTicks : Prop :=
  (∀ (n : Nat) (s : State) (op : Op) (k : Nat), s.seq = .run op k → s.grain = .event → s.resetIn = false →
    s.timer = n → Host.Core.run Sys2Proof.core n s = .next { s with timer := 0 }) ∧
  (∀ (n : Nat) (s : State) (op : Op) (k : Nat), s.seq = .run op k → s.grain = .event → s.resetIn = false →
    s.timer = 0 → (opExpand op s.cfg s.payload)[k]? = some (.wait n) →
    ∃ t, step s = .next t ∧ t.seq = .run op (k + 1) ∧ t.trace = s.trace ++ [.done (.wait n)] ∧ t.timer = n ∧
      Host.Core.run Sys2Proof.core n t = .next { t with timer := 0 })

/-- R14: the two descriptions agree: the sequencer, one event per step, reaches the state the big step
answers. -/
def Obligations.SmallStepsReachTheBigStep : Prop :=
  ∀ (op : Op) (s t : State), CanAccept s → s.resetIn = false →
    execOp op { s with grain := .operation } = .next t →
    ∃ n u, execOp op { s with grain := .event } = .next u ∧
      Host.Core.run Sys2Proof.core n u = .next { t with grain := .event }

/-- R66, G9: an operation whose payload is short waits at the TX that needs the bytes, BUSY, with the
events before it emitted, and a step leaves it waiting. -/
def Obligations.ShortPayloadLeavesTheBlockWaiting : Prop :=
  ∀ (i : Instr) (s : State), CanRun s → s.resetIn = false → violation i s.cfg s.latches = none →
    s.payload.length < payloadNeeded i → textGeometryOk i s.cfg s.payload = true →
    ∃ t, exec i s = .next t ∧ t.seq = .run (.row i) (eventsBeforePayload i s.cfg s.payload) ∧ t.busy = true ∧
      t.fault = s.fault ∧
      t.trace = s.trace ++ done ((expand i s.cfg s.payload).take (eventsBeforePayload i s.cfg s.payload)) ∧
      pinsOf t =
        pinsAfter (pinsOf s) ((expand i s.cfg s.payload).take (eventsBeforePayload i s.cfg s.payload)) ∧
      step t = .next t

/-- R66, R261: once the host has supplied the bytes, the next step completes the operation with its
whole trace. -/
def Obligations.DeliveredPayloadCompletesTheOperation : Prop :=
  ∀ (i : Instr) (s t : State) (bs : List Byte), CanRun s → s.resetIn = false →
    violation i s.cfg s.latches = none → s.payload.length < payloadNeeded i →
    payloadNeeded i ≤ (s.payload ++ bs).length → textGeometryOk i s.cfg (s.payload ++ bs) = true →
    exec i s = .next t →
    ∃ u, step (deliver bs t) = .next u ∧ u.seq = .idle ∧ u.busy = false ∧
      u.trace = s.trace ++ done (expand i s.cfg (s.payload ++ bs))

/-- R36 (a) to (d): an operation that completes leaves a well-framed trace and chip-select
de-asserted, whether it ran in one step or is gone on with. -/
def Obligations.CompletedOperationsAreWellFramed : Prop :=
  (∀ (op : Op) (s t : State), CanAccept s → s.grain = .operation → s.pinCs = false →
    execOp op s = .next t → t.seq = .idle →
    t.pinCs = false ∧ ∃ es, t.trace = s.trace ++ done es ∧ wellFramed s.pinDc es = true) ∧
  (∀ (op : Op) (k : Nat) (s t : State) (dc : Bool), s.seq = .run op k → PositionInv s → WindowInv s → PinsInv s →
    opViolation op s.cfg s.latches = none → resume op k s = .next t → t.seq = .idle →
    t.trace = s.trace ++ done ((opExpand op s.cfg s.payload).drop k) ∧
      wellFramed dc (opExpand op s.cfg s.payload) = true ∧
      (opExpand op s.cfg s.payload ≠ [] → t.pinCs = false))

/-- R36 (e), R257: the reset line is written only by hardReset, alone or inside initialize, which
leaves it high; at the event grain no step of another running operation changes it. -/
def Obligations.ResetLineIsWrittenOnlyByHardReset : Prop :=
  (∀ (op : Op) (s t : State), pulsesReset op = false → execOp op s = .next t → t.pinRst = s.pinRst) ∧
  (∀ (op : Op) (k : Nat) (s t : State), pulsesReset op = false → resume op k s = .next t → t.pinRst = s.pinRst) ∧
  (∀ (op : Op) (s t : State), pulsesReset op = true → CanAccept s → s.grain = .operation →
    execOp op s = .next t → t.pinRst = true) ∧
  (∀ (op : Op) (k : Nat) (s t : State), pulsesReset op = true → s.seq = .run op k → PositionInv s → PinsInv s →
    resume op k s = .next t → t.seq = .idle → t.pinRst = true)

/-- R21, R259: no step writes the configuration, not even block reset or an axis-swapping orientation. -/
def Obligations.ConfigurationNeverChanges : Prop :=
  ∀ s t : State, step s = .next t → t.cfg = s.cfg

/-- R26, R29, R37: what AW, the work counters and the timer hold before an operation is of no account:
everything seen of its result is the same. -/
def Obligations.OldLatchesAreNeverSeen : Prop :=
  ∀ (op : Op) (s : State) (aw : AddressWindow) (awValid : Bool) (work : Work) (timer : Nat),
    observeResult (execOp op { s with aw := aw, awValid := awValid, work := work, timer := timer }) =
      observeResult (execOp op s)

/-- R31, R32, R232: every step keeps the status flags and the fault registers in agreement with SEQ,
and the timer within 500 ms. -/
def Obligations.StepKeepsTheStatusInvariant : Prop :=
  ∀ s t : State, StatusInv s → step s = .next t → StatusInv t

/-- R28, R24: every step keeps SEQ within the running operation's trace, and the pins what the events
emitted so far made of the levels the operation began with. -/
def Obligations.StepKeepsThePositionBounded : Prop :=
  (∀ s t : State, PositionInv s → step s = .next t → PositionInv t) ∧
    (∀ s t : State, PositionInv s → WindowInv s → PinsInv s → step s = .next t → PinsInv t)

/-- R26, D31: every step keeps AW written, and holding the window written last, wherever the running
operation reads it next; such a state never stops with a fault of the model, and no operation that
starts does. That AW is written in the step of its window's first event is the model's choice
(notes/assumptions/26). -/
def Obligations.StepKeepsTheWindowWritten : Prop :=
  (∀ s t : State, WindowInv s → step s = .next t → WindowInv t) ∧
    (∀ (s : State) (f : Fault), WindowInv s → step s ≠ .fault f) ∧
    (∀ (op : Op) (s : State) (f : Fault), execOp op s ≠ .fault f)

/-! ## Encoding -/

/-- R103 to R105, R81: decoding the code of a well-formed instruction gives it back. -/
def Obligations.DecodeOfEncodeIsTheInstruction : Prop :=
  ∀ i : Instr, i.wellFormed = true → decode (encode i) = .ok i

/-- R105: decoding answers only well-formed instructions, and every request word decodes. -/
def Obligations.DecodedInstructionsAreWellFormed : Prop :=
  (∀ (code : Code) (i : Instr), decode code = .ok i → i.wellFormed = true) ∧
    (∀ w : ReqWord, ∃ i, decode (.request w) = .ok i)

/-- R104, R105, R103: each operation code with the fields its operands come from, the four forms of
sendCommand and its two pseudo-operations among them; the bits it does not name are ignored, and a
reserved code stays one whatever its other bits. -/
def Obligations.OperandsComeFromTheirFields : Prop :=
  ∀ w : ReqWord,
    (w.extractLsb' 120 8 = 0x01#8 → w.getLsbD 112 = true → w.extractLsb' 0 32 = 0#32 → decodeRequest w =
      if w.extractLsb' 96 8 = 0x13#8 then .normalDisplayOn
      else if w.extractLsb' 96 8 = 0x29#8 then .displayOn
      else .sendCommandCmd (w.extractLsb' 96 8)) ∧
    (w.extractLsb' 120 8 = 0x01#8 → w.getLsbD 112 = true → w.extractLsb' 0 32 ≠ 0#32 → decodeRequest w =
      .sendCommandCmdData (w.extractLsb' 96 8) (w.extractLsb' 0 32)) ∧
    (w.extractLsb' 120 8 = 0x01#8 → w.getLsbD 112 = false → w.extractLsb' 0 32 = 0#32 →
      decodeRequest w = .sendCommandNone) ∧
    (w.extractLsb' 120 8 = 0x01#8 → w.getLsbD 112 = false → w.extractLsb' 0 32 ≠ 0#32 →
      decodeRequest w = .sendCommandData (w.extractLsb' 0 32)) ∧
    ((w.extractLsb' 120 8 = 0x00#8 ∨ 0x10 ≤ (w.extractLsb' 120 8).toNat) →
      decodeRequest w = .reserved (w.extractLsb' 120 8)) ∧
    (w.extractLsb' 120 8 = 0x02#8 → decodeRequest w =
      .setAddressWindow (w.extractLsb' 96 16) (w.extractLsb' 80 16) (w.extractLsb' 64 16) (w.extractLsb' 48 16)) ∧
    (w.extractLsb' 120 8 = 0x03#8 → decodeRequest w =
      .drawPixel (w.extractLsb' 96 16) (w.extractLsb' 80 16) (w.extractLsb' 32 16)) ∧
    (w.extractLsb' 120 8 = 0x04#8 → decodeRequest w =
      .fillRectangle (w.extractLsb' 96 16) (w.extractLsb' 80 16) (w.extractLsb' 64 16) (w.extractLsb' 48 16)
        (w.extractLsb' 32 16)) ∧
    (w.extractLsb' 120 8 = 0x05#8 → decodeRequest w = .fillScreen (w.extractLsb' 32 16)) ∧
    (w.extractLsb' 120 8 = 0x06#8 → decodeRequest w =
      .blitBuffer (w.extractLsb' 96 16) (w.extractLsb' 80 16) (w.extractLsb' 64 16) (w.extractLsb' 48 16)
        (w.extractLsb' 0 32)) ∧
    (w.extractLsb' 120 8 = 0x07#8 → decodeRequest w = .hardReset) ∧
    (w.extractLsb' 120 8 = 0x08#8 → decodeRequest w = .softReset) ∧
    (w.extractLsb' 120 8 = 0x09#8 → decodeRequest w = .setSleep (w.getLsbD 112)) ∧
    (w.extractLsb' 120 8 = 0x0A#8 → decodeRequest w = .setInversion (w.getLsbD 112)) ∧
    (w.extractLsb' 120 8 = 0x0B#8 → decodeRequest w = .setColorMode (w.extractLsb' 96 8)) ∧
    (w.extractLsb' 120 8 = 0x0C#8 → decodeRequest w =
      .setMemoryAccessMode (w.extractLsb' 96 8) (w.getLsbD 112)) ∧
    (w.extractLsb' 120 8 = 0x0D#8 → decodeRequest w = .initializePanel) ∧
    (w.extractLsb' 120 8 = 0x0E#8 → decodeRequest w =
      .drawChar (w.extractLsb' 64 8) (w.extractLsb' 96 16) (w.extractLsb' 80 16) (w.extractLsb' 32 16)) ∧
    (w.extractLsb' 120 8 = 0x0F#8 → decodeRequest w =
      .drawText (w.extractLsb' 0 32) (w.extractLsb' 96 16) (w.extractLsb' 80 16) (w.extractLsb' 32 16))

/-- R103, R104, R84 to R95: a few codes of the spec's own examples (95_test_vectors.md V-30.1, V-30.3)
and of its frames decode to what they stand for. -/
def Obligations.SpecExampleCodesDecode : Prop :=
  decode (.request 0x0400000000000014000DF80000000000#128) = .ok (.fillRectangle 0 0 20 13 0xF800) ∧
    decode (.request 0x0101003A000000000000000000000001#128) = .ok (.sendCommandCmdData 0x3A 1) ∧
    decode (.request 0x0C010009000000000000000000000000#128) = .ok (.setMemoryAccessMode 9 true) ∧
    decode (.request 0x0D000000000000000000000000000000#128) = .ok .initializePanel ∧
    decode (.request 0x0F00000A000A00000000FFFF00000002#128) = .ok (.drawText 2 10 10 0xFFFF) ∧
    decode (.request 0x0B0000D5000100020003000400000005#128) = .ok (.setColorMode 0xD5) ∧
    decode (.frame [(false, 0x2A), (true, 0x00), (true, 0x0A), (true, 0x00), (true, 0x0C)]) =
      .ok (.wireColumnAddressSet 10 12) ∧
    decode (.frame [(true, 0xF8), (true, 0x1F)]) = .ok (.wirePixelUnit 31 0 31)

/-- R272: events, transactions, command bytes and data bytes of every request's trace. That a character code is
the low CHAR_BITS bits of its byte is the model's choice (notes/assumptions/20). -/
def Obligations.OperationCountsAreTheTables : Prop :=
  (∀ (c : Cfg) (pl : List Byte) (op : Byte), counts (expand (.sendCommandCmd op) c pl) = ⟨4, 1, 1, 0⟩) ∧
  (∀ (c : Cfg) (pl : List Byte) (op : Byte) (plen : U32), plen ≠ 0 → plen.toNat ≤ pl.length →
    counts (expand (.sendCommandCmdData op plen) c pl) = ⟨6, 1, 1, plen.toNat⟩ ∧
    counts (expand (.sendCommandData plen) c pl) = ⟨4, 1, 0, plen.toNat⟩) ∧
  (∀ (c : Cfg) (pl : List Byte), counts (expand .hardReset c pl) = ⟨8, 1, 0, 0⟩ ∧
    counts (expand .softReset c pl) = ⟨5, 1, 1, 0⟩) ∧
  (∀ (c : Cfg) (pl : List Byte) (b : Bool), counts (expand (.setSleep b) c pl) = ⟨4, 1, 1, 0⟩ ∧
    counts (expand (.setInversion b) c pl) = ⟨4, 1, 1, 0⟩) ∧
  (∀ (c : Cfg) (pl : List Byte) (m : Byte) (b : Bool), counts (expand (.setColorMode m) c pl) = ⟨6, 1, 1, 1⟩ ∧
    counts (expand (.setMemoryAccessMode m b) c pl) = ⟨6, 1, 1, 1⟩) ∧
  (∀ (c : Cfg) (pl : List Byte) (x0 y0 x1 y1 color : U16),
    counts (expand (.setAddressWindow x0 y0 x1 y1) c pl) = ⟨16, 3, 3, 8⟩ ∧
    counts (expand (.drawPixel x0 y0 color) c pl) = ⟨20, 4, 3, 10⟩) ∧
  (∀ (c : Cfg) (pl : List Byte) (x y w h color : U16), 1 ≤ c.chunkPixels →
    counts (expand (.fillRectangle x y w h color) c pl) =
      ⟨16 + 4 * ceilDiv (w.toNat * h.toNat) c.chunkPixels, 3 + ceilDiv (w.toNat * h.toNat) c.chunkPixels, 3,
        8 + 2 * w.toNat * h.toNat⟩) ∧
  (∀ (c : Cfg) (pl : List Byte) (color : U16), 1 ≤ c.chunkPixels →
    counts (expand (.fillScreen color) c pl) =
      ⟨16 + 4 * ceilDiv (c.width * c.height) c.chunkPixels, 3 + ceilDiv (c.width * c.height) c.chunkPixels, 3,
        8 + 2 * c.width * c.height⟩) ∧
  (∀ (c : Cfg) (pl : List Byte) (x y w h : U16) (plen : U32), plen.toNat = 2 * w.toNat * h.toNat →
    plen.toNat ≤ pl.length →
    counts (expand (.blitBuffer x y w h plen) c pl) = ⟨20, 4, 3, 8 + 2 * w.toNat * h.toNat⟩) ∧
  (∀ (c : Cfg) (pl : List Byte), 1 ≤ c.chunkPixels →
    counts (expand .initializePanel c pl) =
      ⟨61 + 4 * ceilDiv (c.width * c.height) c.chunkPixels, 11 + ceilDiv (c.width * c.height) c.chunkPixels, 10,
        10 + 2 * c.width * c.height⟩) ∧
  (∀ (c : Cfg) (pl : List Byte) (code : Byte) (x y color : U16) (n : Nat),
    n = (charPixels c.font (charCode c code)).length →
    counts (expand (.drawChar code x y color) c pl) = ⟨20 * n, 4 * n, 3 * n, 10 * n⟩) ∧
  (∀ (c : Cfg) (pl : List Byte) (plen : U32) (x y color : U16) (n : Nat),
    n = ((textCodes c pl plen).map (fun code => (charPixels c.font code).length)).sum →
    counts (expand (.drawText plen x y color) c pl) = ⟨20 * n, 4 * n, 3 * n, 10 * n⟩)
end

