-- ==== Sys2Proof/Laws/Decode.lean ====
section
/-! SUPPORT. The small lemmas of the descriptor's fields (30_encoding.md R103) and of the byte
splitting (00_scope.md R11): each field of a word built from fields is that field, and a 16-bit
value is its two bytes put together. -/

namespace Sys2Proof

@[simp] theorem reqOp_requestWord (op flags : Byte) (a b c d e : U16) (plen : U32) :
    reqOp (requestWord op flags a b c d e plen) = op := by
  unfold reqOp requestWord
  simp (disch := omega) only [BitVec.extractLsb'_append_eq_of_le, Nat.reduceSub, BitVec.extractLsb'_eq_self]

@[simp] theorem reqFlags_requestWord (op flags : Byte) (a b c d e : U16) (plen : U32) :
    reqFlags (requestWord op flags a b c d e plen) = flags := by
  unfold reqFlags requestWord
  simp (disch := omega) only [BitVec.extractLsb'_append_eq_of_le, BitVec.extractLsb'_append_eq_of_add_le, Nat.reduceSub, BitVec.extractLsb'_eq_self]

@[simp] theorem reqA_requestWord (op flags : Byte) (a b c d e : U16) (plen : U32) :
    reqA (requestWord op flags a b c d e plen) = a := by
  unfold reqA requestWord
  simp (disch := omega) only [BitVec.extractLsb'_append_eq_of_le, BitVec.extractLsb'_append_eq_of_add_le, Nat.reduceSub, BitVec.extractLsb'_eq_self]

@[simp] theorem reqB_requestWord (op flags : Byte) (a b c d e : U16) (plen : U32) :
    reqB (requestWord op flags a b c d e plen) = b := by
  unfold reqB requestWord
  simp (disch := omega) only [BitVec.extractLsb'_append_eq_of_le, BitVec.extractLsb'_append_eq_of_add_le, Nat.reduceSub, BitVec.extractLsb'_eq_self]

@[simp] theorem reqC_requestWord (op flags : Byte) (a b c d e : U16) (plen : U32) :
    reqC (requestWord op flags a b c d e plen) = c := by
  unfold reqC requestWord
  simp (disch := omega) only [BitVec.extractLsb'_append_eq_of_le, BitVec.extractLsb'_append_eq_of_add_le, Nat.reduceSub, BitVec.extractLsb'_eq_self]

@[simp] theorem reqD_requestWord (op flags : Byte) (a b c d e : U16) (plen : U32) :
    reqD (requestWord op flags a b c d e plen) = d := by
  unfold reqD requestWord
  simp (disch := omega) only [BitVec.extractLsb'_append_eq_of_le, BitVec.extractLsb'_append_eq_of_add_le, Nat.reduceSub, BitVec.extractLsb'_eq_self]

@[simp] theorem reqE_requestWord (op flags : Byte) (a b c d e : U16) (plen : U32) :
    reqE (requestWord op flags a b c d e plen) = e := by
  unfold reqE requestWord
  simp (disch := omega) only [BitVec.extractLsb'_append_eq_of_le, BitVec.extractLsb'_append_eq_of_add_le, Nat.reduceSub, BitVec.extractLsb'_eq_self]

@[simp] theorem reqPlen_requestWord (op flags : Byte) (a b c d e : U16) (plen : U32) :
    reqPlen (requestWord op flags a b c d e plen) = plen := by
  unfold reqPlen requestWord
  simp (disch := omega) only [BitVec.extractLsb'_append_eq_of_add_le, BitVec.extractLsb'_eq_self]

@[simp] theorem reqFlag0_requestWord (op flags : Byte) (a b c d e : U16) (plen : U32) :
    reqFlag0 (requestWord op flags a b c d e plen) = flags.getLsbD 0 := by
  simp [reqFlag0]

@[simp] theorem flag0_getLsbD (b : Bool) : (flag0 b).getLsbD 0 = b := by cases b <;> rfl

@[simp] theorem lowByte_byteField (b : Byte) : lowByte (byteField b) = b := by
  apply BitVec.eq_of_toNat_eq
  simpa [lowByte, byteField] using b.isLt

@[simp] theorem highByte_append_lowByte (v : U16) : (highByte v ++ lowByte v : U16) = v := by
  simp only [highByte, lowByte]
  exact BitVec.extractLsb'_append_extractLsb'_eq_extractLsb' (by omega) |>.trans BitVec.extractLsb'_eq_self

@[simp] theorem highByte_append (hi lo : Byte) : highByte (hi ++ lo : U16) = hi := by
  unfold highByte
  simp (disch := omega) only [BitVec.extractLsb'_append_eq_of_le, Nat.reduceSub, BitVec.extractLsb'_eq_self]

@[simp] theorem lowByte_append (hi lo : Byte) : lowByte (hi ++ lo : U16) = lo := by
  unfold lowByte
  simp (disch := omega) only [BitVec.extractLsb'_append_eq_of_add_le, BitVec.extractLsb'_eq_self]

end Sys2Proof
end

