-- ==== Sys2Proof/Laws/State.lean ====
section
/-! SUPPORT. One lemma per field per named update of the state, true by unfolding it once. -/

namespace Sys2Proof.Machine

/-! ## raise (R224) -/

@[simp] theorem raise_cfg (v : Violation) (s : State) : (raise v s).cfg = s.cfg := rfl
@[simp] theorem raise_pinCs (v : Violation) (s : State) : (raise v s).pinCs = s.pinCs := rfl
@[simp] theorem raise_pinDc (v : Violation) (s : State) : (raise v s).pinDc = s.pinDc := rfl
@[simp] theorem raise_pinRst (v : Violation) (s : State) : (raise v s).pinRst = s.pinRst := rfl
@[simp] theorem raise_latches (v : Violation) (s : State) : (raise v s).latches = s.latches := rfl
@[simp] theorem raise_seq (v : Violation) (s : State) : (raise v s).seq = .faulted := rfl
@[simp] theorem raise_aw (v : Violation) (s : State) : (raise v s).aw = s.aw := rfl
@[simp] theorem raise_awValid (v : Violation) (s : State) : (raise v s).awValid = s.awValid := rfl
@[simp] theorem raise_work (v : Violation) (s : State) : (raise v s).work = s.work := rfl
@[simp] theorem raise_timer (v : Violation) (s : State) : (raise v s).timer = s.timer := rfl
@[simp] theorem raise_busy (v : Violation) (s : State) : (raise v s).busy = false := rfl
@[simp] theorem raise_ready (v : Violation) (s : State) : (raise v s).ready = s.ready := rfl
@[simp] theorem raise_fault (v : Violation) (s : State) : (raise v s).fault = true := rfl
@[simp] theorem raise_faultCause (v : Violation) (s : State) : (raise v s).faultCause = causeCode v.cause := rfl
@[simp] theorem raise_faultInfo (v : Violation) (s : State) : (raise v s).faultInfo = v.info := rfl
@[simp] theorem raise_trace (v : Violation) (s : State) : (raise v s).trace = s.trace := rfl
@[simp] theorem raise_grain (v : Violation) (s : State) : (raise v s).grain = s.grain := rfl
@[simp] theorem raise_resetIn (v : Violation) (s : State) : (raise v s).resetIn = s.resetIn := rfl
@[simp] theorem raise_inbox (v : Violation) (s : State) : (raise v s).inbox = s.inbox := rfl
@[simp] theorem raise_payload (v : Violation) (s : State) : (raise v s).payload = s.payload := rfl
@[simp] theorem raise_transport (v : Violation) (s : State) : (raise v s).transport = s.transport := rfl

/-! ## writeWindow (R164) -/

@[simp] theorem writeWindow_cfg (x0 y0 x1 y1 : Int) (s : State) : (writeWindow x0 y0 x1 y1 s).cfg = s.cfg := rfl
@[simp] theorem writeWindow_pinCs (x0 y0 x1 y1 : Int) (s : State) : (writeWindow x0 y0 x1 y1 s).pinCs = s.pinCs := rfl
@[simp] theorem writeWindow_pinDc (x0 y0 x1 y1 : Int) (s : State) : (writeWindow x0 y0 x1 y1 s).pinDc = s.pinDc := rfl
@[simp] theorem writeWindow_pinRst (x0 y0 x1 y1 : Int) (s : State) : (writeWindow x0 y0 x1 y1 s).pinRst = s.pinRst := rfl
@[simp] theorem writeWindow_latches (x0 y0 x1 y1 : Int) (s : State) : (writeWindow x0 y0 x1 y1 s).latches = s.latches := rfl
@[simp] theorem writeWindow_seq (x0 y0 x1 y1 : Int) (s : State) : (writeWindow x0 y0 x1 y1 s).seq = s.seq := rfl
@[simp] theorem writeWindow_aw (x0 y0 x1 y1 : Int) (s : State) : (writeWindow x0 y0 x1 y1 s).aw = windowLatches s.cfg x0 y0 x1 y1 := rfl
@[simp] theorem writeWindow_awValid (x0 y0 x1 y1 : Int) (s : State) : (writeWindow x0 y0 x1 y1 s).awValid = true := rfl
@[simp] theorem writeWindow_work (x0 y0 x1 y1 : Int) (s : State) : (writeWindow x0 y0 x1 y1 s).work = s.work := rfl
@[simp] theorem writeWindow_timer (x0 y0 x1 y1 : Int) (s : State) : (writeWindow x0 y0 x1 y1 s).timer = s.timer := rfl
@[simp] theorem writeWindow_busy (x0 y0 x1 y1 : Int) (s : State) : (writeWindow x0 y0 x1 y1 s).busy = s.busy := rfl
@[simp] theorem writeWindow_ready (x0 y0 x1 y1 : Int) (s : State) : (writeWindow x0 y0 x1 y1 s).ready = s.ready := rfl
@[simp] theorem writeWindow_fault (x0 y0 x1 y1 : Int) (s : State) : (writeWindow x0 y0 x1 y1 s).fault = s.fault := rfl
@[simp] theorem writeWindow_faultCause (x0 y0 x1 y1 : Int) (s : State) : (writeWindow x0 y0 x1 y1 s).faultCause = s.faultCause := rfl
@[simp] theorem writeWindow_faultInfo (x0 y0 x1 y1 : Int) (s : State) : (writeWindow x0 y0 x1 y1 s).faultInfo = s.faultInfo := rfl
@[simp] theorem writeWindow_trace (x0 y0 x1 y1 : Int) (s : State) : (writeWindow x0 y0 x1 y1 s).trace = s.trace := rfl
@[simp] theorem writeWindow_grain (x0 y0 x1 y1 : Int) (s : State) : (writeWindow x0 y0 x1 y1 s).grain = s.grain := rfl
@[simp] theorem writeWindow_resetIn (x0 y0 x1 y1 : Int) (s : State) : (writeWindow x0 y0 x1 y1 s).resetIn = s.resetIn := rfl
@[simp] theorem writeWindow_inbox (x0 y0 x1 y1 : Int) (s : State) : (writeWindow x0 y0 x1 y1 s).inbox = s.inbox := rfl
@[simp] theorem writeWindow_payload (x0 y0 x1 y1 : Int) (s : State) : (writeWindow x0 y0 x1 y1 s).payload = s.payload := rfl
@[simp] theorem writeWindow_transport (x0 y0 x1 y1 : Int) (s : State) : (writeWindow x0 y0 x1 y1 s).transport = s.transport := rfl

/-! ## settleWait (R262) -/

@[simp] theorem settleWait_cfg (s : State) : (settleWait s).cfg = s.cfg := rfl
@[simp] theorem settleWait_pinCs (s : State) : (settleWait s).pinCs = s.pinCs := rfl
@[simp] theorem settleWait_pinDc (s : State) : (settleWait s).pinDc = s.pinDc := rfl
@[simp] theorem settleWait_pinRst (s : State) : (settleWait s).pinRst = s.pinRst := rfl
@[simp] theorem settleWait_latches (s : State) : (settleWait s).latches = s.latches := rfl
@[simp] theorem settleWait_seq (s : State) : (settleWait s).seq = s.seq := rfl
@[simp] theorem settleWait_aw (s : State) : (settleWait s).aw = s.aw := rfl
@[simp] theorem settleWait_awValid (s : State) : (settleWait s).awValid = s.awValid := rfl
@[simp] theorem settleWait_work (s : State) : (settleWait s).work = s.work := rfl
@[simp] theorem settleWait_timer (s : State) : (settleWait s).timer = 0 := rfl
@[simp] theorem settleWait_busy (s : State) : (settleWait s).busy = s.busy := rfl
@[simp] theorem settleWait_ready (s : State) : (settleWait s).ready = s.ready := rfl
@[simp] theorem settleWait_fault (s : State) : (settleWait s).fault = s.fault := rfl
@[simp] theorem settleWait_faultCause (s : State) : (settleWait s).faultCause = s.faultCause := rfl
@[simp] theorem settleWait_faultInfo (s : State) : (settleWait s).faultInfo = s.faultInfo := rfl
@[simp] theorem settleWait_trace (s : State) : (settleWait s).trace = s.trace := rfl
@[simp] theorem settleWait_grain (s : State) : (settleWait s).grain = s.grain := rfl
@[simp] theorem settleWait_resetIn (s : State) : (settleWait s).resetIn = s.resetIn := rfl
@[simp] theorem settleWait_inbox (s : State) : (settleWait s).inbox = s.inbox := rfl
@[simp] theorem settleWait_payload (s : State) : (settleWait s).payload = s.payload := rfl
@[simp] theorem settleWait_transport (s : State) : (settleWait s).transport = s.transport := rfl

/-! ## tick (R232) -/

@[simp] theorem tick_cfg (s : State) : (tick s).cfg = s.cfg := rfl
@[simp] theorem tick_pinCs (s : State) : (tick s).pinCs = s.pinCs := rfl
@[simp] theorem tick_pinDc (s : State) : (tick s).pinDc = s.pinDc := rfl
@[simp] theorem tick_pinRst (s : State) : (tick s).pinRst = s.pinRst := rfl
@[simp] theorem tick_latches (s : State) : (tick s).latches = s.latches := rfl
@[simp] theorem tick_seq (s : State) : (tick s).seq = s.seq := rfl
@[simp] theorem tick_aw (s : State) : (tick s).aw = s.aw := rfl
@[simp] theorem tick_awValid (s : State) : (tick s).awValid = s.awValid := rfl
@[simp] theorem tick_work (s : State) : (tick s).work = s.work := rfl
@[simp] theorem tick_timer (s : State) : (tick s).timer = s.timer - 1 := rfl
@[simp] theorem tick_busy (s : State) : (tick s).busy = s.busy := rfl
@[simp] theorem tick_ready (s : State) : (tick s).ready = s.ready := rfl
@[simp] theorem tick_fault (s : State) : (tick s).fault = s.fault := rfl
@[simp] theorem tick_faultCause (s : State) : (tick s).faultCause = s.faultCause := rfl
@[simp] theorem tick_faultInfo (s : State) : (tick s).faultInfo = s.faultInfo := rfl
@[simp] theorem tick_trace (s : State) : (tick s).trace = s.trace := rfl
@[simp] theorem tick_grain (s : State) : (tick s).grain = s.grain := rfl
@[simp] theorem tick_resetIn (s : State) : (tick s).resetIn = s.resetIn := rfl
@[simp] theorem tick_inbox (s : State) : (tick s).inbox = s.inbox := rfl
@[simp] theorem tick_payload (s : State) : (tick s).payload = s.payload := rfl
@[simp] theorem tick_transport (s : State) : (tick s).transport = s.transport := rfl

/-! ## begin (R28, R31) -/

@[simp] theorem begin_cfg (op : Op) (s : State) : (begin op s).cfg = s.cfg := rfl
@[simp] theorem begin_pinCs (op : Op) (s : State) : (begin op s).pinCs = s.pinCs := rfl
@[simp] theorem begin_pinDc (op : Op) (s : State) : (begin op s).pinDc = s.pinDc := rfl
@[simp] theorem begin_pinRst (op : Op) (s : State) : (begin op s).pinRst = s.pinRst := rfl
@[simp] theorem begin_latches (op : Op) (s : State) : (begin op s).latches = s.latches := rfl
@[simp] theorem begin_seq (op : Op) (s : State) : (begin op s).seq = .run op 0 := rfl
@[simp] theorem begin_aw (op : Op) (s : State) : (begin op s).aw = s.aw := rfl
@[simp] theorem begin_awValid (op : Op) (s : State) : (begin op s).awValid = false := rfl
@[simp] theorem begin_work (op : Op) (s : State) : (begin op s).work = s.work := rfl
@[simp] theorem begin_timer (op : Op) (s : State) : (begin op s).timer = 0 := rfl
@[simp] theorem begin_busy (op : Op) (s : State) : (begin op s).busy = true := rfl
@[simp] theorem begin_ready (op : Op) (s : State) : (begin op s).ready = readyAtAcceptance op s.ready := rfl
@[simp] theorem begin_fault (op : Op) (s : State) : (begin op s).fault = s.fault := rfl
@[simp] theorem begin_faultCause (op : Op) (s : State) : (begin op s).faultCause = s.faultCause := rfl
@[simp] theorem begin_faultInfo (op : Op) (s : State) : (begin op s).faultInfo = s.faultInfo := rfl
@[simp] theorem begin_trace (op : Op) (s : State) : (begin op s).trace = s.trace := rfl
@[simp] theorem begin_grain (op : Op) (s : State) : (begin op s).grain = s.grain := rfl
@[simp] theorem begin_resetIn (op : Op) (s : State) : (begin op s).resetIn = s.resetIn := rfl
@[simp] theorem begin_inbox (op : Op) (s : State) : (begin op s).inbox = s.inbox := rfl
@[simp] theorem begin_payload (op : Op) (s : State) : (begin op s).payload = s.payload := rfl
@[simp] theorem begin_transport (op : Op) (s : State) : (begin op s).transport = s.transport := rfl

/-! ## complete (R28, R31) -/

@[simp] theorem complete_cfg (op : Op) (s : State) : (complete op s).cfg = s.cfg := rfl
@[simp] theorem complete_pinCs (op : Op) (s : State) : (complete op s).pinCs = s.pinCs := rfl
@[simp] theorem complete_pinDc (op : Op) (s : State) : (complete op s).pinDc = s.pinDc := rfl
@[simp] theorem complete_pinRst (op : Op) (s : State) : (complete op s).pinRst = s.pinRst := rfl
@[simp] theorem complete_latches (op : Op) (s : State) : (complete op s).latches = s.latches := rfl
@[simp] theorem complete_seq (op : Op) (s : State) : (complete op s).seq = .idle := rfl
@[simp] theorem complete_aw (op : Op) (s : State) : (complete op s).aw = s.aw := rfl
@[simp] theorem complete_awValid (op : Op) (s : State) : (complete op s).awValid = false := rfl
@[simp] theorem complete_work (op : Op) (s : State) : (complete op s).work = s.work := rfl
@[simp] theorem complete_timer (op : Op) (s : State) : (complete op s).timer = s.timer := rfl
@[simp] theorem complete_busy (op : Op) (s : State) : (complete op s).busy = false := rfl
@[simp] theorem complete_ready (op : Op) (s : State) : (complete op s).ready = readyAtCompletion op s.ready := rfl
@[simp] theorem complete_fault (op : Op) (s : State) : (complete op s).fault = s.fault := rfl
@[simp] theorem complete_faultCause (op : Op) (s : State) : (complete op s).faultCause = s.faultCause := rfl
@[simp] theorem complete_faultInfo (op : Op) (s : State) : (complete op s).faultInfo = s.faultInfo := rfl
@[simp] theorem complete_trace (op : Op) (s : State) : (complete op s).trace = s.trace := rfl
@[simp] theorem complete_grain (op : Op) (s : State) : (complete op s).grain = s.grain := rfl
@[simp] theorem complete_resetIn (op : Op) (s : State) : (complete op s).resetIn = s.resetIn := rfl
@[simp] theorem complete_inbox (op : Op) (s : State) : (complete op s).inbox = s.inbox := rfl
@[simp] theorem complete_payload (op : Op) (s : State) : (complete op s).payload = s.payload := rfl
@[simp] theorem complete_transport (op : Op) (s : State) : (complete op s).transport = s.transport := rfl

/-! ## blockReset (R250) -/

@[simp] theorem blockReset_cfg (s : State) : (blockReset s).cfg = s.cfg := rfl
@[simp] theorem blockReset_pinCs (s : State) : (blockReset s).pinCs = s.cfg.resetCs := rfl
@[simp] theorem blockReset_pinDc (s : State) : (blockReset s).pinDc = s.cfg.resetDc := rfl
@[simp] theorem blockReset_pinRst (s : State) : (blockReset s).pinRst = s.cfg.resetRst := rfl
@[simp] theorem blockReset_latches (s : State) : (blockReset s).latches = State.reset.latches := rfl
@[simp] theorem blockReset_seq (s : State) : (blockReset s).seq = State.reset.seq := rfl
@[simp] theorem blockReset_aw (s : State) : (blockReset s).aw = State.reset.aw := rfl
@[simp] theorem blockReset_awValid (s : State) : (blockReset s).awValid = State.reset.awValid := rfl
@[simp] theorem blockReset_work (s : State) : (blockReset s).work = State.reset.work := rfl
@[simp] theorem blockReset_timer (s : State) : (blockReset s).timer = State.reset.timer := rfl
@[simp] theorem blockReset_busy (s : State) : (blockReset s).busy = State.reset.busy := rfl
@[simp] theorem blockReset_ready (s : State) : (blockReset s).ready = State.reset.ready := rfl
@[simp] theorem blockReset_fault (s : State) : (blockReset s).fault = State.reset.fault := rfl
@[simp] theorem blockReset_faultCause (s : State) : (blockReset s).faultCause = State.reset.faultCause := rfl
@[simp] theorem blockReset_faultInfo (s : State) : (blockReset s).faultInfo = State.reset.faultInfo := rfl
@[simp] theorem blockReset_trace (s : State) : (blockReset s).trace = State.reset.trace := rfl
@[simp] theorem blockReset_grain (s : State) : (blockReset s).grain = s.grain := rfl
@[simp] theorem blockReset_resetIn (s : State) : (blockReset s).resetIn = State.reset.resetIn := rfl
@[simp] theorem blockReset_inbox (s : State) : (blockReset s).inbox = s.inbox := rfl
@[simp] theorem blockReset_payload (s : State) : (blockReset s).payload = State.reset.payload := rfl
@[simp] theorem blockReset_transport (s : State) : (blockReset s).transport = s.transport := rfl

/-! ## takeOffer (R27, R53) -/

@[simp] theorem takeOffer_cfg (o : Offer) (s : State) : (takeOffer o s).cfg = s.cfg := by cases o with | mk c p => cases c <;> rfl
@[simp] theorem takeOffer_pinCs (o : Offer) (s : State) : (takeOffer o s).pinCs = s.pinCs := by cases o with | mk c p => cases c <;> rfl
@[simp] theorem takeOffer_pinDc (o : Offer) (s : State) : (takeOffer o s).pinDc = s.pinDc := by cases o with | mk c p => cases c <;> rfl
@[simp] theorem takeOffer_pinRst (o : Offer) (s : State) : (takeOffer o s).pinRst = s.pinRst := by cases o with | mk c p => cases c <;> rfl
@[simp] theorem takeOffer_seq (o : Offer) (s : State) : (takeOffer o s).seq = s.seq := by cases o with | mk c p => cases c <;> rfl
@[simp] theorem takeOffer_aw (o : Offer) (s : State) : (takeOffer o s).aw = s.aw := by cases o with | mk c p => cases c <;> rfl
@[simp] theorem takeOffer_awValid (o : Offer) (s : State) : (takeOffer o s).awValid = s.awValid := by cases o with | mk c p => cases c <;> rfl
@[simp] theorem takeOffer_work (o : Offer) (s : State) : (takeOffer o s).work = s.work := by cases o with | mk c p => cases c <;> rfl
@[simp] theorem takeOffer_timer (o : Offer) (s : State) : (takeOffer o s).timer = s.timer := by cases o with | mk c p => cases c <;> rfl
@[simp] theorem takeOffer_busy (o : Offer) (s : State) : (takeOffer o s).busy = s.busy := by cases o with | mk c p => cases c <;> rfl
@[simp] theorem takeOffer_ready (o : Offer) (s : State) : (takeOffer o s).ready = s.ready := by cases o with | mk c p => cases c <;> rfl
@[simp] theorem takeOffer_fault (o : Offer) (s : State) : (takeOffer o s).fault = s.fault := by cases o with | mk c p => cases c <;> rfl
@[simp] theorem takeOffer_faultCause (o : Offer) (s : State) : (takeOffer o s).faultCause = s.faultCause := by cases o with | mk c p => cases c <;> rfl
@[simp] theorem takeOffer_faultInfo (o : Offer) (s : State) : (takeOffer o s).faultInfo = s.faultInfo := by cases o with | mk c p => cases c <;> rfl
@[simp] theorem takeOffer_trace (o : Offer) (s : State) : (takeOffer o s).trace = s.trace := by cases o with | mk c p => cases c <;> rfl
@[simp] theorem takeOffer_grain (o : Offer) (s : State) : (takeOffer o s).grain = s.grain := by cases o with | mk c p => cases c <;> rfl
@[simp] theorem takeOffer_resetIn (o : Offer) (s : State) : (takeOffer o s).resetIn = s.resetIn := by cases o with | mk c p => cases c <;> rfl
@[simp] theorem takeOffer_inbox (o : Offer) (s : State) : (takeOffer o s).inbox = s.inbox := by cases o with | mk c p => cases c <;> rfl
@[simp] theorem takeOffer_transport (o : Offer) (s : State) : (takeOffer o s).transport = s.transport := by cases o with | mk c p => cases c <;> rfl
@[simp] theorem takeOffer_payload (o : Offer) (s : State) : (takeOffer o s).payload = o.payload := by
  cases o with | mk c p => cases c <;> rfl
theorem takeOffer_latches_request (w : ReqWord) (bs : List Byte) (s : State) :
    (takeOffer ⟨.request w, bs⟩ s).latches = latchRequest w := rfl
theorem takeOffer_latches_frame (fs : List (Bool × Byte)) (bs : List Byte) (s : State) :
    (takeOffer ⟨.frame fs, bs⟩ s).latches = s.latches := rfl

/-! ## emitDone (R30) -/

@[simp] theorem emitDone_cfg (e : Event) (s : State) : (emitDone e s).cfg = s.cfg := by cases e <;> rfl
@[simp] theorem emitDone_latches (e : Event) (s : State) : (emitDone e s).latches = s.latches := by cases e <;> rfl
@[simp] theorem emitDone_seq (e : Event) (s : State) : (emitDone e s).seq = advanceSeq s.seq := by cases e <;> rfl
@[simp] theorem emitDone_aw (e : Event) (s : State) : (emitDone e s).aw = s.aw := by cases e <;> rfl
@[simp] theorem emitDone_awValid (e : Event) (s : State) : (emitDone e s).awValid = s.awValid := by cases e <;> rfl
@[simp] theorem emitDone_work (e : Event) (s : State) : (emitDone e s).work = s.work := by cases e <;> rfl
@[simp] theorem emitDone_busy (e : Event) (s : State) : (emitDone e s).busy = s.busy := by cases e <;> rfl
@[simp] theorem emitDone_ready (e : Event) (s : State) : (emitDone e s).ready = s.ready := by cases e <;> rfl
@[simp] theorem emitDone_fault (e : Event) (s : State) : (emitDone e s).fault = s.fault := by cases e <;> rfl
@[simp] theorem emitDone_faultCause (e : Event) (s : State) : (emitDone e s).faultCause = s.faultCause := by cases e <;> rfl
@[simp] theorem emitDone_faultInfo (e : Event) (s : State) : (emitDone e s).faultInfo = s.faultInfo := by cases e <;> rfl
@[simp] theorem emitDone_trace (e : Event) (s : State) : (emitDone e s).trace = s.trace ++ [.done e] := by cases e <;> rfl
@[simp] theorem emitDone_grain (e : Event) (s : State) : (emitDone e s).grain = s.grain := by cases e <;> rfl
@[simp] theorem emitDone_resetIn (e : Event) (s : State) : (emitDone e s).resetIn = s.resetIn := by cases e <;> rfl
@[simp] theorem emitDone_inbox (e : Event) (s : State) : (emitDone e s).inbox = s.inbox := by cases e <;> rfl
@[simp] theorem emitDone_payload (e : Event) (s : State) : (emitDone e s).payload = s.payload := by cases e <;> rfl
@[simp] theorem emitDone_transport (e : Event) (s : State) : (emitDone e s).transport = s.transport := by cases e <;> rfl

end Sys2Proof.Machine
end

