-- ==== Sys2Proof/Laws/Ops.lean ====
section
/-! SUPPORT. One lemma for each shared operation that says everything it can do, and the run of a
list of fixed events. A proof cites these and does not unfold the operation. -/

namespace Sys2Proof.Machine

/-! ## emit (R30) -/

/-- The state in which a TX has taken the transport's next answer, other events none. -/
def takeAnswer (e : Event) (s : State) : State :=
  match e with
  | .tx _ => { s with transport := s.transport.drop 1 }
  | .cs _ => s
  | .dc _ => s
  | .rst _ => s
  | .wait _ => s

/-- An event is emitted and applied, or it is a TX the transport fails and TransportFailure is taken. -/
theorem emit_cases (e : Event) (s : State) :
    (emit e s = .go (emitDone e (takeAnswer e s)) ∧
      ∀ bs, e = .tx bs → s.transport = [] ∨ ∃ rest, s.transport = .ok :: rest) ∨
    (∃ bs sent rest, e = .tx bs ∧ s.transport = .fail sent :: rest ∧
      emit e s = .halt (failTx bs sent { s with transport := rest })) := by
  cases e with
  | cs a => exact .inl ⟨rfl, by simp⟩
  | dc l => exact .inl ⟨rfl, by simp⟩
  | rst l => exact .inl ⟨rfl, by simp⟩
  | wait n => exact .inl ⟨rfl, by simp⟩
  | tx bs =>
    cases s with
    | mk cfg pc pd pr la sq aw av wk tm bu re fa fc fi tr gr ri ib pl tp =>
      cases tp with
      | nil => exact .inl ⟨rfl, fun _ _ => .inl rfl⟩
      | cons a rest =>
        cases a with
        | ok => exact .inl ⟨rfl, fun _ _ => .inr ⟨rest, rfl⟩⟩
        | fail n => exact .inr ⟨bs, n, rest, rfl, rfl, rfl⟩

/-- With every answer ok, an event is emitted and applied. -/
theorem emit_of_ok (e : Event) (s : State) (h : AnswersOk s.transport) :
    emit e s = .go (emitDone e (takeAnswer e s)) := by
  obtain ⟨h1, -⟩ | ⟨bs, sent, rest, -, h2, -⟩ := emit_cases e s
  · exact h1
  · exact absurd (h (.fail sent) (by simp [h2])) (by simp)

theorem takeAnswer_ok (e : Event) (s : State) (h : AnswersOk s.transport) :
    AnswersOk (takeAnswer e s).transport := by
  cases e <;> first | exact h | exact fun a ha => h a (List.mem_of_mem_drop ha)

theorem emitDone_ok (e : Event) (s : State) (h : AnswersOk s.transport) :
    AnswersOk (emitDone e s).transport := by simpa using h

/-! ## openWindow (R163, R164) -/

/-- A window in the panel is written to AW; any other raises InvalidGeometry and writes nothing. -/
theorem openWindow_cases (x0 y0 x1 y1 : Int) (s : State) :
    (inWindow s.cfg x0 y0 x1 y1 = true ∧ openWindow x0 y0 x1 y1 s = .go (writeWindow x0 y0 x1 y1 s)) ∨
    (inWindow s.cfg x0 y0 x1 y1 = false ∧
      openWindow x0 y0 x1 y1 s = .halt (raise ⟨.invalidGeometry, geometryInfo x0 y0⟩ s)) := by
  cases h : inWindow s.cfg x0 y0 x1 y1
  · exact .inr ⟨rfl, by simp [openWindow, windowViolation, h]⟩
  · exact .inl ⟨rfl, by simp [openWindow, windowViolation, h]⟩

/-! ## emitPosition (R26) -/

/-- A position payload is sent when AW has been written; otherwise the model stops. -/
theorem emitPosition_cases (start stop : U16) (s : State) :
    (s.awValid = true ∧ emitPosition start stop s = emit (.tx (be16 start ++ be16 stop)) s) ∨
    (s.awValid = false ∧ emitPosition start stop s = .broken .unwrittenAddressWindow) := by
  cases h : s.awValid
  · exact .inr ⟨rfl, by simp [emitPosition, h]⟩
  · exact .inl ⟨rfl, by simp [emitPosition, h]⟩

/-! ## runMicros and runOneEvent (R14, R28) -/

theorem runMicros_nil (op : Op) (s : State) : runMicros op [] s = .next (complete op s) := rfl

theorem runMicros_go (op : Op) (m : Micro) (ms : List Micro) (s s' : State) (h : perform m s = .go s') :
    runMicros op (m :: ms) s = runMicros op ms (settleWait s') := by simp [runMicros, h]

theorem runMicros_halt (op : Op) (m : Micro) (ms : List Micro) (s s' : State) (h : perform m s = .halt s') :
    runMicros op (m :: ms) s = .next s' := by simp [runMicros, h]

theorem runMicros_broken (op : Op) (m : Micro) (ms : List Micro) (s : State) (f : Fault)
    (h : perform m s = .broken f) : runMicros op (m :: ms) s = .fault f := by simp [runMicros, h]

theorem runOneEvent_go_event (op : Op) (m : Micro) (ms : List Micro) (s s' : State)
    (h : perform m s = .go s') (he : isEvent m = true) : runOneEvent op (m :: ms) s = .next s' := by
  simp [runOneEvent, h, he]

theorem runOneEvent_go_work (op : Op) (m : Micro) (ms : List Micro) (s s' : State)
    (h : perform m s = .go s') (he : isEvent m = false) :
    runOneEvent op (m :: ms) s = runOneEvent op ms s' := by simp [runOneEvent, h, he]

/-- Every event of a list emitted and applied, each TX taking an answer and each wait run out. -/
def emitted : List Event → State → State
  | [], s => s
  | e :: es, s => emitted es (settleWait (emitDone e (takeAnswer e s)))

theorem emitted_append (es fs : List Event) (s : State) :
    emitted (es ++ fs) s = emitted fs (emitted es s) := by
  induction es generalizing s with
  | nil => rfl
  | cons e es ih => exact ih _

theorem emitted_ok (es : List Event) (s : State) (h : AnswersOk s.transport) :
    AnswersOk (emitted es s).transport := by
  induction es generalizing s with
  | nil => exact h
  | cons e es ih => exact ih _ (by simpa using takeAnswer_ok e s h)

/-- The run of fixed events with every answer ok: they are all emitted, then the rest runs. -/
theorem runMicros_emitAll (op : Op) (es : List Event) (ms : List Micro) (s : State)
    (h : AnswersOk s.transport) :
    runMicros op (emitAll es ++ ms) s = runMicros op ms (emitted es s) := by
  induction es generalizing s with
  | nil => rfl
  | cons e es ih =>
    have hp : perform (.emit e) s = .go (emitDone e (takeAnswer e s)) := emit_of_ok e s h
    have := runMicros_go op (.emit e) (emitAll es ++ ms) s _ hp
    exact this.trans (ih _ (by simpa using takeAnswer_ok e s h))

/-! ## accept (R225, R226, R258) -/

/-- What a request at the sequencer can lead to: it is not accepted, the configuration is refused, a
check fails and its fault is taken, or the operation starts. -/
theorem accept_cases (op : Op) (check : Option Violation) (ms : List Micro) (s : State) :
    (s.seq ≠ .idle ∧ accept op check ms s = .next s) ∨
    (s.seq = .idle ∧ cfgLegal s.cfg = false ∧ accept op check ms s = .refused .illegalConfiguration) ∨
    (CanAccept s ∧ ∃ v, check = some v ∧ accept op check ms s = .next (raise v s)) ∨
    (CanAccept s ∧ check = none ∧ accept op check ms s = launch op ms s) := by
  cases hs : s.seq with
  | run j k => exact .inl ⟨by simp, by simp [accept, hs]⟩
  | faulted => exact .inl ⟨by simp, by simp [accept, hs]⟩
  | idle =>
    cases hc : cfgLegal s.cfg
    · exact .inr (.inl ⟨rfl, rfl, by simp [accept, hs, hc]⟩)
    · cases check with
      | some v => exact .inr (.inr (.inl ⟨⟨hs, hc⟩, v, rfl, by simp [accept, hs, hc]⟩))
      | none => exact .inr (.inr (.inr ⟨⟨hs, hc⟩, rfl, by simp [accept, hs, hc]⟩))

/-- At the operation grain an operation that passes its check runs to its end. -/
theorem accept_runs (op : Op) (ms : List Micro) (s : State) (h : CanAccept s) (hg : s.grain = .operation) :
    accept op none ms s = runMicros op ms (begin op s) := by
  simp [accept, h.1, h.2, launch, hg]

/-- At the event grain it is accepted and no event is emitted yet. -/
theorem accept_begins (op : Op) (ms : List Micro) (s : State) (h : CanAccept s) (hg : s.grain = .event) :
    accept op none ms s = .next (begin op s) := by
  simp [accept, h.1, h.2, launch, hg]

/-- A failed check raises its fault. -/
theorem accept_raises (op : Op) (v : Violation) (ms : List Micro) (s : State) (h : CanAccept s) :
    accept op (some v) ms s = .next (raise v s) := by
  simp [accept, h.1, h.2]

/-- Every meaning is one acceptance, with its check and its program. -/
theorem exec_eq_accept (i : Instr) (s : State) :
    exec i s = accept (.row i) (violation i s.cfg s.latches) (program i s.cfg s.payload) s := by
  cases i <;> rfl

/-- The same of an operation of either kind. -/
theorem execOp_eq_accept (op : Op) (s : State) :
    execOp op s = accept op (opViolation op s.cfg s.latches) (opProgram op s.cfg s.payload) s := by
  cases op with
  | row i => exact exec_eq_accept i s
  | call r => rfl

/-! ## The parts of a program -/

/-- A program is what has been run once `k` events are emitted and what is left. -/
theorem upToEvents_append_afterEvents (k : Nat) (ms : List Micro) : upToEvents k ms ++ afterEvents k ms = ms := by
  induction ms generalizing k with
  | nil => cases k <;> rfl
  | cons m ms ih =>
    cases k with
    | zero => rfl
    | succ k =>
      cases hm : isEvent m
      · simpa [upToEvents, afterEvents, hm] using ih (k + 1)
      · simpa [upToEvents, afterEvents, hm] using ih k

end Sys2Proof.Machine
end

