-- ==== Sys2Proof/Laws/PerInstr.lean ====
section
/-! SUPPORT. A statement about every instruction as syntax: the code of an instruction carries its
operation code, of a request in bits 127:120 (30_encoding.md R103, R104), of a frame as its one
command byte (R84 to R95), of a pixel unit as none (R83). -/

namespace Sys2Proof.Laws.OpField

/-- The operation code of a request row (R104); `none` for a wire row. -/
def requestOp : Instr → Option Byte
  | .wireSoftwareReset => none
  | .wireSleepIn => none
  | .wireSleepOut => none
  | .wireNormalDisplayOn => none
  | .wireInversionOff => none
  | .wireInversionOn => none
  | .wireDisplayOn => none
  | .wireMemoryWrite => none
  | .wireColumnAddressSet _ _ => none
  | .wireRowAddressSet _ _ => none
  | .wireMemoryAccessControl _ => none
  | .wireColorMode _ => none
  | .wirePixelUnit _ _ _ => none
  | .sendCommandCmd _ => some 0x01
  | .sendCommandCmdData _ _ => some 0x01
  | .sendCommandData _ => some 0x01
  | .sendCommandNone => some 0x01
  | .setAddressWindow _ _ _ _ => some 0x02
  | .drawPixel _ _ _ => some 0x03
  | .fillRectangle _ _ _ _ _ => some 0x04
  | .fillScreen _ => some 0x05
  | .blitBuffer _ _ _ _ _ => some 0x06
  | .hardReset => some 0x07
  | .softReset => some 0x08
  | .setSleep _ => some 0x09
  | .setInversion _ => some 0x0A
  | .setColorMode _ => some 0x0B
  | .setMemoryAccessMode _ _ => some 0x0C
  | .initializePanel => some 0x0D
  | .drawChar _ _ _ _ => some 0x0E
  | .drawText _ _ _ _ => some 0x0F
  | .normalDisplayOn => some 0x01
  | .displayOn => some 0x01
  | .reserved op => some op

/-- The command byte of a wire row (R84 to R95); `none` for the pixel unit and the requests. -/
def commandByte : Instr → Option Byte
  | .wireSoftwareReset => some 0x01
  | .wireSleepIn => some 0x10
  | .wireSleepOut => some 0x11
  | .wireNormalDisplayOn => some 0x13
  | .wireInversionOff => some 0x20
  | .wireInversionOn => some 0x21
  | .wireDisplayOn => some 0x29
  | .wireMemoryWrite => some 0x2C
  | .wireColumnAddressSet _ _ => some 0x2A
  | .wireRowAddressSet _ _ => some 0x2B
  | .wireMemoryAccessControl _ => some 0x36
  | .wireColorMode _ => some 0x3A
  | _ => none

/-- The command bytes of a frame: those sent with the line low (R80). -/
def commandBytes (bytes : List (Bool × Byte)) : List Byte := (bytes.filter (fun p => !p.1)).map Prod.snd

def Statement (i : Instr) : Prop :=
  match encode i with
  | .request w => requestOp i = some (reqOp w)
  | .frame bytes => requestOp i = none ∧ commandBytes bytes = (commandByte i).toList

theorem wireSoftwareReset : Statement .wireSoftwareReset := ⟨rfl, rfl⟩
theorem wireSleepIn : Statement .wireSleepIn := ⟨rfl, rfl⟩
theorem wireSleepOut : Statement .wireSleepOut := ⟨rfl, rfl⟩
theorem wireNormalDisplayOn : Statement .wireNormalDisplayOn := ⟨rfl, rfl⟩
theorem wireInversionOff : Statement .wireInversionOff := ⟨rfl, rfl⟩
theorem wireInversionOn : Statement .wireInversionOn := ⟨rfl, rfl⟩
theorem wireDisplayOn : Statement .wireDisplayOn := ⟨rfl, rfl⟩
theorem wireMemoryWrite : Statement .wireMemoryWrite := ⟨rfl, rfl⟩
theorem wireColumnAddressSet (start stop : U16) : Statement (.wireColumnAddressSet start stop) := ⟨rfl, rfl⟩
theorem wireRowAddressSet (start stop : U16) : Statement (.wireRowAddressSet start stop) := ⟨rfl, rfl⟩
theorem wireMemoryAccessControl (parameter : Byte) : Statement (.wireMemoryAccessControl parameter) := ⟨rfl, rfl⟩
theorem wireColorMode (parameter : Byte) : Statement (.wireColorMode parameter) := ⟨rfl, rfl⟩
theorem wirePixelUnit (red : BitVec 5) (green : BitVec 6) (blue : BitVec 5) : Statement (.wirePixelUnit red green blue) := ⟨rfl, rfl⟩
theorem sendCommandCmd (opcode : Byte) : Statement (.sendCommandCmd opcode) := by
  simp [Statement, encode, requestOp, reqOp_requestWord]
theorem sendCommandCmdData (opcode : Byte) (plen : U32) : Statement (.sendCommandCmdData opcode plen) := by
  simp [Statement, encode, requestOp, reqOp_requestWord]
theorem sendCommandData (plen : U32) : Statement (.sendCommandData plen) := by
  simp [Statement, encode, requestOp, reqOp_requestWord]
theorem sendCommandNone : Statement .sendCommandNone := by
  simp [Statement, encode, requestOp, reqOp_requestWord]
theorem setAddressWindow (x0 y0 x1 y1 : U16) : Statement (.setAddressWindow x0 y0 x1 y1) := by
  simp [Statement, encode, requestOp, reqOp_requestWord]
theorem drawPixel (x y color : U16) : Statement (.drawPixel x y color) := by
  simp [Statement, encode, requestOp, reqOp_requestWord]
theorem fillRectangle (x y w h color : U16) : Statement (.fillRectangle x y w h color) := by
  simp [Statement, encode, requestOp, reqOp_requestWord]
theorem fillScreen (color : U16) : Statement (.fillScreen color) := by
  simp [Statement, encode, requestOp, reqOp_requestWord]
theorem blitBuffer (x y w h : U16) (plen : U32) : Statement (.blitBuffer x y w h plen) := by
  simp [Statement, encode, requestOp, reqOp_requestWord]
theorem hardReset : Statement .hardReset := by
  simp [Statement, encode, requestOp, reqOp_requestWord]
theorem softReset : Statement .softReset := by
  simp [Statement, encode, requestOp, reqOp_requestWord]
theorem setSleep (enabled : Bool) : Statement (.setSleep enabled) := by
  simp [Statement, encode, requestOp, reqOp_requestWord]
theorem setInversion (enabled : Bool) : Statement (.setInversion enabled) := by
  simp [Statement, encode, requestOp, reqOp_requestWord]
theorem setColorMode (mode : Byte) : Statement (.setColorMode mode) := by
  simp [Statement, encode, requestOp, reqOp_requestWord]
theorem setMemoryAccessMode (orientation : Byte) (isBgr : Bool) : Statement (.setMemoryAccessMode orientation isBgr) := by
  simp [Statement, encode, requestOp, reqOp_requestWord]
theorem initializePanel : Statement .initializePanel := by
  simp [Statement, encode, requestOp, reqOp_requestWord]
theorem drawChar (code : Byte) (x y color : U16) : Statement (.drawChar code x y color) := by
  simp [Statement, encode, requestOp, reqOp_requestWord]
theorem drawText (plen : U32) (x y color : U16) : Statement (.drawText plen x y color) := by
  simp [Statement, encode, requestOp, reqOp_requestWord]
theorem normalDisplayOn : Statement .normalDisplayOn := by
  simp [Statement, encode, requestOp, reqOp_requestWord]
theorem displayOn : Statement .displayOn := by
  simp [Statement, encode, requestOp, reqOp_requestWord]
theorem reserved (op : Byte) : Statement (.reserved op) := by
  simp [Statement, encode, requestOp, reqOp_requestWord]

end Sys2Proof.Laws.OpField
end

