-- ==== Sys2Proof/Tests/Slice0.lean ====
section
/-! SUPPORT. Tests of the model: the ill-formed terms the checks refuse, words written out from the
spec's encodings, one step of each instruction against the spec's own vectors
(95_test_vectors.md), and a witness for the hypotheses of every statement. -/

namespace Sys2Proof.Tests

open Sys2Proof Sys2Proof.Machine

/-! ## WellFormed smoke tests -/

theorem test_wf_colorMode : (Instr.wireColorMode 0x80).wellFormed = false := by decide
theorem test_wf_colorMode_bit3 : (Instr.wireColorMode 0x08).wellFormed = false := by decide
theorem test_wf_pseudo_noron : (Instr.sendCommandCmd 0x13).wellFormed = false := by decide
theorem test_wf_pseudo_dispon : (Instr.sendCommandCmd 0x29).wellFormed = false := by decide
theorem test_wf_empty_payload : (Instr.sendCommandCmdData 0x2C 0).wellFormed = false := by decide
theorem test_wf_empty_data : (Instr.sendCommandData 0).wellFormed = false := by decide
theorem test_wf_reserved : (Instr.reserved 0x0F).wellFormed = false := by decide
theorem test_wf_reserved_low : (Instr.reserved 0x00).wellFormed = true := by decide

/-! ## Words written out from the encodings (R81 to R95, R103, R104, V-30.1 to V-30.3) -/

theorem test_dec_software_reset : decodeTableWord 8 0x01 = some .wireSoftwareReset := by decide
theorem test_dec_sleep_in : decodeTableWord 8 0x10 = some .wireSleepIn := by decide
theorem test_dec_sleep_out : decodeTableWord 8 0x11 = some .wireSleepOut := by decide
theorem test_dec_noron : decodeTableWord 8 0x13 = some .wireNormalDisplayOn := by decide
theorem test_dec_invoff : decodeTableWord 8 0x20 = some .wireInversionOff := by decide
theorem test_dec_invon : decodeTableWord 8 0x21 = some .wireInversionOn := by decide
theorem test_dec_dispon : decodeTableWord 8 0x29 = some .wireDisplayOn := by decide
theorem test_dec_ramwr : decodeTableWord 8 0x2C = some .wireMemoryWrite := by decide
theorem test_dec_caset : decodeTableWord 40 0x2A000A000C = some (.wireColumnAddressSet 10 12) := by decide
theorem test_dec_raset : decodeTableWord 40 0x2B0000013F = some (.wireRowAddressSet 0 319) := by decide
theorem test_dec_madctl : decodeTableWord 16 0x36C0 = some (.wireMemoryAccessControl 0xC0) := by decide
theorem test_dec_colmod : decodeTableWord 16 0x3A55 = some (.wireColorMode 0x55) := by decide
theorem test_dec_pixel : decodeTableWord 16 0xF81F = some (.wirePixelUnit 31 0 31) := by decide
theorem test_dec_cmd : decodeTableWord 128 0x0101002C000000000000000000000000 = some (.sendCommandCmd 0x2C) := by
  decide
theorem test_dec_cmd_data :
    decodeTableWord 128 0x0101003A000000000000000000000001 = some (.sendCommandCmdData 0x3A 1) := by decide
theorem test_dec_data :
    decodeTableWord 128 0x0100000000000000000000000000000C = some (.sendCommandData 12) := by decide
theorem test_dec_none : decodeTableWord 128 0x0100002C000000000000000000000000 = some .sendCommandNone := by decide
theorem test_dec_window :
    decodeTableWord 128 0x0200000A0014000C0015000000000000 = some (.setAddressWindow 10 20 12 21) := by decide
theorem test_dec_pixel_request :
    decodeTableWord 128 0x0300008600EF0000000007E000000000 = some (.drawPixel 134 239 0x07E0) := by decide
theorem test_dec_fill :
    decodeTableWord 128 0x0400000000000014000DF80000000000 = some (.fillRectangle 0 0 20 13 0xF800) := by decide
theorem test_dec_fillScreen :
    decodeTableWord 128 0x05000000000000000000123400000000 = some (.fillScreen 0x1234) := by decide
theorem test_dec_blit :
    decodeTableWord 128 0x06000005000600020002000000000008 = some (.blitBuffer 5 6 2 2 8) := by decide
theorem test_dec_hardReset : decodeTableWord 128 0x07000000000000000000000000000000 = some .hardReset := by decide
theorem test_dec_softReset : decodeTableWord 128 0x08000000000000000000000000000000 = some .softReset := by decide
theorem test_dec_setSleep : decodeTableWord 128 0x09FE0000000000000000000000000000 = some (.setSleep false) := by
  decide
theorem test_dec_setInversion :
    decodeTableWord 128 0x0A010000000000000000000000000000 = some (.setInversion true) := by decide
theorem test_dec_setColorMode :
    decodeTableWord 128 0x0B00AAD5000000000000000000000000 = some (.setColorMode 0xD5) := by decide
theorem test_dec_setMemoryAccessMode :
    decodeTableWord 128 0x0C010009000000000000000000000000 = some (.setMemoryAccessMode 9 true) := by decide
theorem test_dec_initialize :
    decodeTableWord 128 0x0D000000000000000000000000000000 = some .initializePanel := by decide
theorem test_dec_drawChar :
    decodeTableWord 128 0x0E00000A000A00480000FFFF00000000 = some (.drawChar 72 10 10 0xFFFF) := by decide
theorem test_dec_drawText :
    decodeTableWord 128 0x0F00000A000A00000000FFFF00000002 = some (.drawText 2 10 10 0xFFFF) := by decide
theorem test_dec_normalDisplayOn :
    decodeTableWord 128 0x01010013000000000000000000000000 = some .normalDisplayOn := by decide
theorem test_dec_displayOn :
    decodeTableWord 128 0x01010029000000000000000000000000 = some .displayOn := by decide
theorem test_dec_reserved :
    decodeTableWord 128 0x10000000000000000000000000000000 = some (.reserved 0x10) := by decide
theorem test_dec_frame_rejected : decode (.frame [(false, 0x28)]) = .error (.notABareCommand 0x28) := by rfl
theorem test_dec_line_level :
    decode (.frame [(true, 0x36), (true, 0x00)]) = .ok (.wirePixelUnit 6 48 0) := by rfl

/-! ## One step of each instruction -/

/-- The reset state with a panel of program P3 and the requests a test presents. -/
def small : State := { State.reset with cfg := { Cfg.scenario with width := 16, height := 20, xOffset := 2, yOffset := 1 } }

/-- The reset state with font F1 of the family-44 vectors. -/
def withF1 : State :=
  { State.reset with
    cfg :=
      { Cfg.scenario with
        font := { charWidth := 6, startCode := 65, glyphHeight := 3, glyphs := [#v[0x81, 0x42, 0x00]] } } }

/-- The trace a result adds to the empty one. -/
def emits (r : Result) (es : List Event) : Bool :=
  match r with
  | .next t => t.trace == done es && t.seq == .idle
  | .fault _ => false
  | .refused _ => false

/-- The result is the FAULTED state with this cause and information and this many trace entries. -/
def faults (r : Result) (cause : BitVec 4) (info : U32) (n : Nat) : Bool :=
  match r with
  | .next t => t.seq == .faulted && t.fault && t.faultCause == cause && t.faultInfo == info && t.trace.length == n
  | .fault _ => false
  | .refused _ => false

/-- A field of the next state. -/
def nextIs (r : Result) (p : State → Bool) : Bool :=
  match r with
  | .next t => p t
  | .fault _ => false
  | .refused _ => false

-- V-40.1
theorem test_sendCommandCmd : emits (exec (.sendCommandCmd 0x00) State.reset)
    [.cs true, .dc false, .tx [0x00], .cs false] = true := by decide
theorem test_sendCommandCmdData : emits (exec (.sendCommandCmdData 0xFF 3) { State.reset with payload := [1, 2, 3] })
    [.cs true, .dc false, .tx [0xFF], .dc true, .tx [1, 2, 3], .cs false] = true := by decide
theorem test_sendCommandData : emits (exec (.sendCommandData 2) { State.reset with payload := [0xF8, 0x00] })
    [.cs true, .dc true, .tx [0xF8, 0x00], .cs false] = true := by decide
-- V-30.2
theorem test_sendCommandNone :
    faults (step (State.reset.withFetchWord 128 0x0100002C000000000000000000000000)) 1 0x0100002C 0 = true := by decide
theorem test_reserved :
    faults (step (State.reset.withFetchWord 128 0xFF000000000000000000000000000000)) 1 0xFF000000 0 = true := by decide
theorem test_drawChar_without_text :
    faults (step (({ State.reset with cfg := { Cfg.scenario with hasText := false } }).withFetchWord 128
      0x0E00000A000A00480000FFFF00000000)) 1 0x0E00000A 0 = true := by decide
-- V-40.3
theorem test_transport_failure : nextIs
    (exec (.sendCommandCmdData 0x3A 1) { State.reset with payload := [0x55], transport := [.ok, .fail 0] })
    (fun t => t.trace == done [.cs true, .dc false, .tx [0x3A], .dc true] ++ [.failed [0x55] 0] &&
      t.faultCause == 4 && t.faultInfo == 4 && pinsOf t == ⟨true, true, true⟩) = true := by decide
-- V-41.1
theorem test_hardReset : emits (exec .hardReset State.reset)
    [.cs true, .rst true, .wait 50, .rst false, .wait 50, .rst true, .wait 150, .cs false] = true := by decide
theorem test_softReset : emits (exec .softReset State.reset)
    [.cs true, .dc false, .tx [0x01], .cs false, .wait 150] = true := by decide
theorem test_setSleep : emits (exec (.setSleep false) State.reset)
    [.cs true, .dc false, .tx [0x11], .cs false] = true := by decide
theorem test_setInversion : emits (exec (.setInversion true) State.reset)
    [.cs true, .dc false, .tx [0x21], .cs false] = true := by decide
theorem test_normalDisplayOn : emits (exec .normalDisplayOn State.reset)
    [.cs true, .dc false, .tx [0x13], .cs false] = true := by decide
theorem test_displayOn : emits (exec .displayOn State.reset)
    [.cs true, .dc false, .tx [0x29], .cs false] = true := by decide
-- V-41.2
theorem test_setColorMode : emits (exec (.setColorMode 0xD5) State.reset)
    [.cs true, .dc false, .tx [0x3A], .dc true, .tx [0x55], .cs false] = true := by decide
-- S7
theorem test_setMemoryAccessMode : emits (exec (.setMemoryAccessMode 9 true) State.reset)
    [.cs true, .dc false, .tx [0x36], .dc true, .tx [0x48], .cs false] = true := by decide
theorem test_setMemoryAccessMode_3 : emits (exec (.setMemoryAccessMode 3 false) State.reset)
    [.cs true, .dc false, .tx [0x36], .dc true, .tx [0xC0], .cs false] = true := by decide
-- V-42.1
theorem test_pack565 : pack565 0x12 0x34 0x56 = 0x11AA := by decide
theorem test_pack565_lowest_kept_bits : pack565 8 4 8 = 0x0821 := by decide
-- V-42.3, offset panel, and the last pixel's byte order
theorem test_setAddressWindow : emits
    (exec (.setAddressWindow 0 0 134 239)
      { State.reset with cfg := { Cfg.scenario with width := 135, height := 240, xOffset := 52, yOffset := 40 } })
    [.cs true, .dc false, .tx [0x2A], .dc true, .tx [0x00, 0x34, 0x00, 0xBA], .cs false,
      .cs true, .dc false, .tx [0x2B], .dc true, .tx [0x00, 0x28, 0x01, 0x17], .cs false,
      .cs true, .dc false, .tx [0x2C], .cs false] = true := by decide
theorem test_setAddressWindow_order : faults (exec (.setAddressWindow 12 20 10 21) State.reset) 2 0x000C0014 0 = true := by
  decide
-- P1
theorem test_drawPixel : nextIs
    (exec (.drawPixel 134 239 0x07E0)
      { State.reset with cfg := { Cfg.scenario with width := 135, height := 240, xOffset := 52, yOffset := 40 } })
    (fun t => t.trace.length == 20 && t.trace[4]? == some (.done (.tx [0x00, 0xBA, 0x00, 0xBA])) &&
      t.trace[18]? == some (.done (.tx [0x07, 0xE0])) && pinsOf t == ⟨false, true, true⟩) = true := by decide
theorem test_drawPixel_outside : faults (exec (.drawPixel 240 0 1) State.reset) 2 0x00F00000 0 = true := by decide
-- V-42.4, V-42.6
theorem test_fillRectangle : nextIs (exec (.fillRectangle 10 20 3 2 0xF800) State.reset)
    (fun t => t.trace.length == 20 &&
      t.trace[18]? == some (.done (.tx [0xF8, 0, 0xF8, 0, 0xF8, 0, 0xF8, 0, 0xF8, 0, 0xF8, 0]))) = true := by decide
theorem test_fillRectangle_chunk4 : nextIs (exec (.fillRectangle 10 20 3 2 0xF800) (withChunk State.reset 4))
    (fun t => t.trace.length == 24 && t.trace[18]? == some (.done (.tx [0xF8, 0, 0xF8, 0, 0xF8, 0, 0xF8, 0])) &&
      t.trace[22]? == some (.done (.tx [0xF8, 0, 0xF8, 0]))) = true := by decide
-- V-42.7
theorem test_fillRectangle_too_wide : faults (exec (.fillRectangle 236 0 5 1 0) State.reset) 2 0x00EC0000 0 = true := by
  decide
theorem test_fillScreen : nextIs (exec (.fillScreen 0x0000) small)
    (fun t => t.trace.length == 24 && t.trace[4]? == some (.done (.tx [0, 2, 0, 0x11])) && t.seq == .idle) = true := by
  decide
-- V-42.8
theorem test_blitBuffer : nextIs
    (exec (.blitBuffer 5 6 2 2 8) { State.reset with payload := [0xF8, 0, 7, 0xE0, 0, 0x1F, 0xFF, 0xFF] })
    (fun t => t.trace.length == 20 &&
      t.trace[18]? == some (.done (.tx [0xF8, 0, 7, 0xE0, 0, 0x1F, 0xFF, 0xFF]))) = true := by decide
theorem test_blitBuffer_geometry_first : faults (exec (.blitBuffer 239 0 2 2 7) State.reset) 2 0x00EF0000 0 = true := by
  decide
-- P3
theorem test_initialize : nextIs (exec .initializePanel small)
    (fun t => t.trace.length == 69 && t.ready && pinsOf t == ⟨false, false, true⟩ &&
      t.trace[60]? == some (.done (.cs true)) && t.trace[68]? == some (.done (.wait 500))) = true := by decide
-- V-43.2
theorem test_initialize_failing : faults
    (exec .initializePanel { small with transport := [.ok, .ok, .ok, .ok, .fail 0] }) 4 26 27 = true := by decide
-- V-44.1, V-44.2
theorem test_drawChar : nextIs (exec (.drawChar 65 0 0 0xF800) withF1)
    (fun t => t.trace.length == 80 && t.trace[24]? == some (.done (.tx [0, 7, 0, 7]))) = true := by decide +kernel
theorem test_drawChar_skipped : emits (exec (.drawChar 66 5000 7000 1) withF1) [] = true := by decide
-- V-44.3, V-44.4
theorem test_drawText : nextIs (exec (.drawText 3 0 0 0xF800) { withF1 with payload := [65, 66, 65] })
    (fun t => t.trace.length == 160 && t.trace[104]? == some (.done (.tx [0, 19, 0, 19])) &&
      t.work.cur == 18) = true := by decide +kernel
theorem test_drawText_fault : faults (exec (.drawText 1 236 0 0xF800) { withF1 with payload := [65] }) 2 0x00F30000 20 =
    true := by decide
-- R81: the frames
theorem test_wireSoftwareReset : emits (exec .wireSoftwareReset State.reset) (traceCommand 0x01) = true := by decide
theorem test_wireSleepIn : emits (exec .wireSleepIn State.reset) (traceCommand 0x10) = true := by decide
theorem test_wireSleepOut : emits (exec .wireSleepOut State.reset) (traceCommand 0x11) = true := by decide
theorem test_wireNormalDisplayOn : emits (exec .wireNormalDisplayOn State.reset) (traceCommand 0x13) = true := by decide
theorem test_wireInversionOff : emits (exec .wireInversionOff State.reset) (traceCommand 0x20) = true := by decide
theorem test_wireInversionOn : emits (exec .wireInversionOn State.reset) (traceCommand 0x21) = true := by decide
theorem test_wireDisplayOn : emits (exec .wireDisplayOn State.reset) (traceCommand 0x29) = true := by decide
theorem test_wireMemoryWrite : emits (exec .wireMemoryWrite State.reset) (traceCommand 0x2C) = true := by decide
theorem test_wireColumnAddressSet : emits (exec (.wireColumnAddressSet 0x0034 0x01BA) State.reset)
    (traceCommandData 0x2A [0x00, 0x34, 0x01, 0xBA]) = true := by decide
theorem test_wireRowAddressSet : emits (exec (.wireRowAddressSet 0 319) State.reset)
    (traceCommandData 0x2B [0, 0, 1, 0x3F]) = true := by decide
theorem test_wireMemoryAccessControl : emits (exec (.wireMemoryAccessControl 0xC0) State.reset)
    (traceCommandData 0x36 [0xC0]) = true := by decide
theorem test_wireColorMode : emits (exec (.wireColorMode 0x55) State.reset) (traceCommandData 0x3A [0x55]) = true := by
  decide
theorem test_wirePixelUnit : emits (exec (.wirePixelUnit 31 0 1) State.reset) (traceData [0xF8, 0x01]) = true := by decide
-- V-40.2, V-41.1: the views
theorem test_wireView : wireView (resetPins Cfg.scenario) (done (expandSendCommand (some 0x3A) 1 [0x55])) =
    [.cs true, .byte false 0x3A, .byte true 0x55, .cs false] := by decide
theorem test_wireView_hardReset : wireView (resetPins Cfg.scenario) (done expandHardReset) =
    [.cs true, .wait 50, .rst false, .wait 50, .rst true, .wait 150, .cs false] := by decide
theorem test_panelView : panelView (resetPins Cfg.scenario) (done (expandFill { Cfg.scenario with chunkPixels := 1 } 10 20 3 2 0xF800)) =
    [.command 0x2A, .data [0, 10, 0, 12], .command 0x2B, .data [0, 20, 0, 21], .command 0x2C,
      .data [0xF8, 0, 0xF8, 0, 0xF8, 0, 0xF8, 0, 0xF8, 0, 0xF8, 0]] := by decide
-- V-60.1, R251: block reset after a fault
theorem test_blockReset : nextIs (step { faultedAtAcceptance State.reset 2 7 with resetIn := true })
    (fun t => t == State.reset) = true := by decide

-- R9, D5: overridden reset levels of the pins
theorem test_blockReset_overridden : nextIs
    (step { State.reset with cfg := { Cfg.scenario with resetCs := true, resetDc := false, resetRst := false }, resetIn := true })
    (fun t => pinsOf t == ⟨true, false, false⟩) = true := by decide
-- R9, R96: an overridden INIT_ORIENTATION and INIT_BGR reach the memory-access-control of initialize
theorem test_initialize_overridden : nextIs
    (exec .initializePanel { small with cfg := { small.cfg with initOrientation := 3, initBgr := true } })
    (fun t => t.ready && t.trace.contains (.done (.tx [0xC8]))) = true := by decide
-- R9: CHAR_BITS bits of a code
theorem test_charBits : charCode { Cfg.scenario with charBits := 7 } 0xC1 = 0x41 := by decide
-- R101, R163, R221: a coordinate below 0 is outside the window, and FAULT_INFO holds its low 16 bits
theorem test_call_negative : faults (execRequest (.drawPixel (-1) 5 7) State.reset) 2 0xFFFF0005 0 = true := by decide
-- R101, R203: a string may begin left of the panel when nothing lit is there
theorem test_call_text : nextIs (execRequest (.drawText [66, 300, 65] (-12) 0 0xF800) withF1)
    (fun t => t.trace.length == 80 && t.trace[4]? == some (.done (.tx [0, 0, 0, 0])) && t.work.cur == 6) = true := by
  decide +kernel
-- R101, R124: both parts absent
theorem test_call_none : faults (step { State.reset with inbox := [.call (.sendCommand none none)] }) 1 0x01000000 0 = true := by
  decide
-- R101, R103: the descriptor of a request, V-30.1
theorem test_lower : lower (.fillRectangle 0 0 20 13 0xF800) = ⟨.request 0x0400000000000014000DF80000000000#128, []⟩ := by
  decide
theorem test_lower_payload : lower (.sendCommand (some 0x3A) (some ⟨0x55, []⟩)) =
    ⟨.request 0x0101003A000000000000000000000001#128, [0x55]⟩ := by decide
-- R101, R146: a mode is any natural number
theorem test_call_mode : emits (execRequest (.setColorMode 0x1D5) State.reset)
    [.cs true, .dc false, .tx [0x3A], .dc true, .tx [0x55], .cs false] = true := by decide

/-! ## Witnesses: states and operands that meet the hypotheses of the statements -/

theorem witness_answersOk_nil : AnswersOk State.reset.transport := by simp [AnswersOk, State.reset]
theorem witness_canAccept : CanAccept State.reset := ⟨rfl, by decide⟩
theorem witness_canRun : CanRun State.reset := ⟨witness_canAccept, rfl, witness_answersOk_nil⟩
theorem witness_canRun_small : CanRun small := ⟨⟨rfl, by decide⟩, rfl, by simp [AnswersOk, small, State.reset]⟩
theorem witness_canRun_F1 : CanRun withF1 := ⟨⟨rfl, by decide⟩, rfl, by simp [AnswersOk, withF1, State.reset]⟩

theorem witness_BareCommandFramesRunToEnd : CanRun State.reset := witness_canRun
theorem witness_PayloadFramesRunToEnd : CanRun State.reset := witness_canRun
theorem witness_SendCommandWithOpcodeRunsToEnd : CanRun State.reset := witness_canRun
theorem witness_SoftResetRunsToEnd : CanRun State.reset := witness_canRun
theorem witness_SleepAndInversionRunToEnd : CanRun State.reset := witness_canRun
theorem witness_SetColorModeRunsToEnd : CanRun State.reset := witness_canRun
theorem witness_SetMemoryAccessModeRunsToEnd : CanRun State.reset := witness_canRun
theorem witness_MaskedOperandsNeverFault : CanRun State.reset := witness_canRun
theorem witness_FillScreenRunsToEnd : CanRun State.reset := witness_canRun
theorem witness_InitializeRunsToEnd : CanRun State.reset := witness_canRun
theorem witness_RequestsThatAreNoOperationAreIllegal_bare : CanRun State.reset := witness_canRun

/-- A state with a payload stream. -/
def fed (bs : List Byte) (s : State) : State := { s with payload := bs }

/-- The state at the event grain. -/
def byEvent (s : State) : State := { s with grain := .event }

theorem witness_canRun_fed (bs : List Byte) : CanRun (fed bs State.reset) :=
  ⟨⟨rfl, by show cfgLegal State.reset.cfg = true; decide⟩, rfl, by simp [AnswersOk, fed, State.reset]⟩
theorem witness_canRun_fed_F1 (bs : List Byte) : CanRun (fed bs withF1) :=
  ⟨⟨rfl, by show cfgLegal withF1.cfg = true; decide⟩, rfl, by simp [AnswersOk, fed, withF1, State.reset]⟩

theorem witness_BlockResetLeavesResetValues : ({ State.reset with resetIn := true }).resetIn = true := rfl
theorem witness_StepRunsTheDecodedInstruction :
    ∃ (s : State) (o : Offer) (rest : List Ask) (i : Instr),
      s.resetIn = false ∧ s.seq = .idle ∧ s.inbox = .coded o :: rest ∧ decode o.code = .ok i :=
  ⟨{ State.reset with inbox := [.coded ⟨encode .hardReset, []⟩] }, ⟨encode .hardReset, []⟩, [], .hardReset, rfl, rfl, rfl, by decide⟩
theorem witness_StepRunsTheDecodedInstruction_idle :
    State.reset.resetIn = false ∧ State.reset.seq = .idle ∧ State.reset.inbox = [] := ⟨rfl, rfl, rfl⟩
theorem witness_StepRunsTheDecodedInstruction_call :
    ({ State.reset with inbox := [.call .softReset] }).resetIn = false ∧
      ({ State.reset with inbox := [.call .softReset] }).seq = .idle ∧
      ({ State.reset with inbox := [.call .softReset] }).inbox = .call .softReset :: [] := ⟨rfl, rfl, rfl⟩
theorem witness_RequestsRunAsTheirDescriptors :
    State.reset.resetIn = false ∧ State.reset.seq = .idle ∧ State.reset.grain = .operation ∧
      requestFits State.reset.cfg (.setAddressWindow 0 65535 0 65535) = true ∧
      requestFits State.reset.cfg (.sendCommand none none) = true ∧
      requestFits State.reset.cfg (.blitBuffer [1, 2] 0 0 1 1) = true ∧
      requestFits State.reset.cfg (.setMemoryAccessMode 1003 true) = true ∧
      requestFits State.reset.cfg (.drawText [0, 255] 0 0 7) = true := by decide
/-- A state in which softReset is running. -/
def running : State := { State.reset with seq := .run (.row .softReset) 1, busy := true, pinCs := true, grain := .event }
theorem witness_NoRequestIsAcceptedOutsideIdle :
    running.seq ≠ .idle ∧ nextIs (step running) (fun t => t.seq == .run (.row .softReset) 2) = true := by decide
theorem witness_FaultIsStickyUntilBlockReset :
    (faultedAtAcceptance State.reset 2 7).seq = .faulted ∧ (faultedAtAcceptance State.reset 2 7).resetIn = false :=
  ⟨rfl, rfl⟩
theorem witness_FaultIsStickyUntilBlockReset_reset :
    ({ faultedAtAcceptance State.reset 2 7 with resetIn := true }).seq = .faulted ∧
    nextIs (step { faultedAtAcceptance State.reset 2 7 with resetIn := true }) (fun t => !t.fault) = true := by decide
theorem witness_IllegalConfigurationIsRefused :
    ({ State.reset with cfg := { Cfg.scenario with width := 0 } }).seq = .idle ∧
      ({ Cfg.scenario with width := 0 }).width = 0 ∧ ({ Cfg.scenario with height := 0 }).height = 0 ∧
      65536 < ({ Cfg.scenario with xOffset := 65297 }).width + ({ Cfg.scenario with xOffset := 65297 }).xOffset ∧
      65536 < ({ Cfg.scenario with yOffset := 65217 }).height + ({ Cfg.scenario with yOffset := 65217 }).yOffset ∧
      ({ Cfg.scenario with chunkPixels := 0 }).chunkPixels = 0 := by decide
theorem witness_IllegalConfigurationIsRefused_legal :
    1 ≤ ({ Cfg.scenario with width := 1, xOffset := 65535 }).width ∧
      ({ Cfg.scenario with width := 1, xOffset := 65535 }).width + 65535 ≤ 65536 ∧ 1 ≤ Cfg.scenario.height ∧
      Cfg.scenario.height + Cfg.scenario.yOffset ≤ 65536 ∧ 1 ≤ Cfg.scenario.chunkPixels := by decide
theorem witness_SendCommandWithPayloadRunsToEnd :
    CanRun (fed [1] State.reset) ∧ (1 : U32) ≠ 0 ∧ (1 : U32).toNat ≤ (fed [1] State.reset).payload.length :=
  ⟨witness_canRun_fed _, by decide, by decide⟩
theorem witness_RequestsThatAreNoOperationAreIllegal :
    CanAccept { State.reset with cfg := { Cfg.scenario with hasText := false } } := ⟨rfl, by decide⟩
/-- The reset state with a request word presented. -/
def asked (w : ReqWord) : State := { State.reset with inbox := [.coded ⟨.request w, []⟩] }
theorem witness_WordsThatNameNoOperationFault_low :
    CanAccept (asked 0) ∧ (0 : ReqWord).extractLsb' 120 8 = 0x00#8 := ⟨⟨rfl, by decide⟩, by decide⟩
theorem witness_WordsThatNameNoOperationFault_high :
    CanAccept (asked (requestWord 0x10 0 0 0 0 0 0 0)) ∧
      0x10 ≤ ((requestWord 0x10 0 0 0 0 0 0 0).extractLsb' 120 8).toNat := ⟨⟨rfl, by decide⟩, by decide⟩
theorem witness_WordsThatNameNoOperationFault_text :
    CanAccept { asked (requestWord 0x0E 0 0 0 0 0 0 0) with cfg := { Cfg.scenario with hasText := false } } ∧
      (requestWord 0x0E 0 0 0 0 0 0 0).extractLsb' 120 8 = 0x0E#8 := ⟨⟨rfl, by decide⟩, by decide⟩
theorem witness_WordsThatNameNoOperationFault_text_0F :
    CanAccept { asked (requestWord 0x0F 0 0 0 0 0 0 0) with cfg := { Cfg.scenario with hasText := false } } ∧
      (requestWord 0x0F 0 0 0 0 0 0 0).extractLsb' 120 8 = 0x0F#8 := ⟨⟨rfl, by decide⟩, by decide⟩
theorem witness_WordsThatNameNoOperationFault_empty :
    CanAccept (asked (requestWord 0x01 0 0x2C 0 0 0 0 0)) ∧
      (requestWord 0x01 0 0x2C 0 0 0 0 0).extractLsb' 120 8 = 0x01#8 ∧
      (requestWord 0x01 0 0x2C 0 0 0 0 0).getLsbD 112 = false ∧
      (requestWord 0x01 0 0x2C 0 0 0 0 0).extractLsb' 0 32 = 0#32 := ⟨⟨rfl, by decide⟩, by decide, by decide, by decide⟩
theorem witness_HardResetRunsToEnd : CanAccept State.reset ∧ State.reset.grain = .operation := ⟨witness_canAccept, rfl⟩
theorem witness_SetAddressWindowRunsToEnd :
    CanRun State.reset ∧ (239 : U16).toNat ≤ (239 : U16).toNat ∧ (239 : U16).toNat < State.reset.cfg.width ∧
      (0 : U16).toNat ≤ (319 : U16).toNat ∧ (319 : U16).toNat < State.reset.cfg.height :=
  ⟨witness_canRun, by decide, by decide, by decide, by decide⟩
theorem witness_PhysicalCoordinatesDoNotWrap :
    cfgLegal { Cfg.scenario with width := 1, xOffset := 65535 } = true ∧ 0 < 1 ∧ 319 < 320 := by decide
theorem witness_DrawPixelRunsToEnd :
    CanRun State.reset ∧ (239 : U16).toNat < State.reset.cfg.width ∧ (319 : U16).toNat < State.reset.cfg.height :=
  ⟨witness_canRun, by decide, by decide⟩
theorem witness_FillRectangleRunsToEnd :
    CanRun State.reset ∧ 1 ≤ (4 : U16).toNat ∧ 1 ≤ (1 : U16).toNat ∧
      (236 : U16).toNat + (4 : U16).toNat ≤ State.reset.cfg.width ∧
      (319 : U16).toNat + (1 : U16).toNat ≤ State.reset.cfg.height :=
  ⟨witness_canRun, by decide, by decide, by decide, by decide⟩
theorem witness_BlitBufferRunsToEnd :
    CanRun (fed [0xF8, 0x00] State.reset) ∧ 1 ≤ (1 : U16).toNat ∧ 1 ≤ (1 : U16).toNat ∧
      (239 : U16).toNat + (1 : U16).toNat ≤ State.reset.cfg.width ∧
      (319 : U16).toNat + (1 : U16).toNat ≤ State.reset.cfg.height ∧
      (2 : U32).toNat = 2 * (1 : U16).toNat * (1 : U16).toNat ∧ (2 : U32).toNat ≤ (fed [0xF8, 0x00] State.reset).payload.length :=
  ⟨witness_canRun_fed _, by decide, by decide, by decide, by decide, by decide, by decide⟩
theorem witness_WindowsOutsideThePanelFault :
    CanAccept State.reset ∧
    ¬((0 : U16).toNat ≤ (240 : U16).toNat ∧ (240 : U16).toNat < State.reset.cfg.width ∧ (0 : U16).toNat ≤ (0 : U16).toNat ∧
      (0 : U16).toNat < State.reset.cfg.height) := ⟨witness_canAccept, by decide⟩
theorem witness_WindowsOutsideThePanelFault_pixel :
    CanAccept State.reset ∧
    ¬((0 : U16).toNat < State.reset.cfg.width ∧ (320 : U16).toNat < State.reset.cfg.height) := ⟨witness_canAccept, by decide⟩
theorem witness_WindowsOutsideThePanelFault_rectangle :
    CanAccept State.reset ∧
    ¬(1 ≤ (0 : U16).toNat ∧ 1 ≤ (5 : U16).toNat ∧ (0 : U16).toNat + (0 : U16).toNat ≤ State.reset.cfg.width ∧
      (0 : U16).toNat + (5 : U16).toNat ≤ State.reset.cfg.height) := ⟨witness_canAccept, by decide⟩
theorem witness_WindowsOutsideThePanelFault_call :
    CanAccept State.reset ∧
    ¬((0 : Int) ≤ -1 ∧ (-1 : Int) ≤ 0 ∧ (0 : Int) < State.reset.cfg.width ∧ (0 : Int) ≤ 0 ∧ (0 : Int) ≤ 0 ∧
      (0 : Int) < State.reset.cfg.height) ∧
    ¬((0 : Int) ≤ 240 ∧ (240 : Int) < State.reset.cfg.width ∧ (0 : Int) ≤ 0 ∧ (0 : Int) < State.reset.cfg.height) ∧
    ¬((1 : Int) ≤ 1 ∧ (1 : Int) ≤ 1 ∧ (0 : Int) ≤ 0 ∧ (0 : Int) + 1 ≤ State.reset.cfg.width ∧ (0 : Int) ≤ -1 ∧
      (-1 : Int) + 1 ≤ State.reset.cfg.height) := ⟨witness_canAccept, by decide, by decide, by decide⟩
theorem witness_BuffersOfAnotherLengthFault :
    CanAccept State.reset ∧
    1 ≤ (2 : U16).toNat ∧ (5 : U16).toNat + (2 : U16).toNat ≤ State.reset.cfg.width ∧
      (6 : U16).toNat + (2 : U16).toNat ≤ State.reset.cfg.height ∧
      (7 : U32).toNat ≠ 2 * (2 : U16).toNat * (2 : U16).toNat := ⟨witness_canAccept, by decide⟩
theorem witness_BuffersOfAnotherLengthFault_call :
    CanAccept State.reset ∧ 1 ≤ 2 ∧ 5 + 2 ≤ State.reset.cfg.width ∧ 6 + 2 ≤ State.reset.cfg.height ∧
      ([1, 2, 3] : List Byte).length ≠ 2 * 2 * 2 := ⟨witness_canAccept, by decide⟩
theorem witness_ChunkSizeIsInvisibleToThePanel :
    CanRun State.reset ∧
    nextIs (exec (.fillRectangle 0 0 2 2 5) (withChunk State.reset 1)) (fun _ => true) = true ∧
      nextIs (exec (.fillRectangle 0 0 2 2 5) (withChunk State.reset 3)) (fun _ => true) = true := ⟨witness_canRun, by decide⟩
theorem witness_ChunkSizeIsInvisibleToThePanel_counts : 1 ≤ Cfg.scenario.chunkPixels ∧ 1 ≤ 3 ∧ 1 ≤ 2 := by decide
theorem witness_InitializeCanBeRepeated : CanAccept (byEvent State.reset) ∧ (byEvent State.reset).grain = .event :=
  ⟨⟨rfl, by decide⟩, rfl⟩
theorem witness_ReadyIsWrittenOnlyByInitialize :
    isInitialize (.row .softReset) = false ∧
      nextIs (execOp (.row .softReset) State.reset) (fun t => t.ready == State.reset.ready) = true := by decide
theorem witness_ReadyIsWrittenOnlyByInitialize_done :
    isInitialize (.row .initializePanel) = true ∧ CanAccept small ∧
    nextIs (execOp (.row .initializePanel) small) (fun t => t.seq == .idle && t.ready) = true :=
  ⟨by decide, witness_canRun_small.1, by decide⟩
theorem witness_ReadyIsWrittenOnlyByInitialize_cut :
    isInitialize (.call .initializePanel) = true ∧ CanAccept { small with transport := [.fail 0] } ∧
    nextIs (execOp (.call .initializePanel) { small with transport := [.fail 0] })
      (fun t => t.seq == .faulted && !t.ready) = true := ⟨by decide, ⟨rfl, by decide⟩, by decide⟩
theorem witness_ReadyIsWrittenOnlyByInitialize_resume :
    isInitialize (.row .softReset) = false ∧
      nextIs (resume (.row .softReset) 1 running) (fun t => t.seq == .run (.row .softReset) 2) = true := by decide
/-- A state in which initialize has emitted its last event. -/
def initializing : State := { small with seq := .run (.row .initializePanel) 69, busy := true, grain := .event }
theorem witness_ReadyIsWrittenOnlyByInitialize_resume_done :
    isInitialize (.row .initializePanel) = true ∧ initializing.seq = .run (.row .initializePanel) 69 ∧
      nextIs (resume (.row .initializePanel) 69 initializing) (fun t => t.seq == .idle && t.ready) = true ∧
      nextIs (resume (.row .initializePanel) 0 { initializing with seq := .run (.row .initializePanel) 0 })
        (fun t => t.seq == .run (.row .initializePanel) 1) = true := by decide
theorem witness_LitPixelsAreTheSetBits :
    64 < withF1.cfg.font.startCode ∧ withF1.cfg.font.startCode + withF1.cfg.font.glyphs.length ≤ 66 ∧
      withF1.cfg.font.startCode ≤ 65 ∧
      withF1.cfg.font.glyphs[65 - withF1.cfg.font.startCode]? = some #v[0x81, 0x42, 0x00] :=
  ⟨by decide, by decide, by decide, rfl⟩
theorem witness_UnsupportedCharacterIsSkipped :
    CanRun withF1 ∧ withF1.cfg.hasText = true ∧ charCode withF1.cfg 64 < withF1.cfg.font.startCode ∧
      withF1.cfg.font.startCode + withF1.cfg.font.glyphs.length ≤ charCode withF1.cfg 66 :=
  ⟨witness_canRun_F1, by decide, by decide, by decide⟩
theorem witness_DelaysAreTheTables : Instr.setSleep false ≠ .hardReset ∧ Instr.setSleep false ≠ .softReset ∧
    Instr.setSleep false ≠ .initializePanel := by decide
theorem witness_DrawCharRunsToEnd :
    CanRun withF1 ∧ withF1.cfg.hasText = true ∧
      pixelsInWindow withF1.cfg 232 317 (charPixels withF1.cfg.font (charCode withF1.cfg 65)) = true ∧
      (charPixels withF1.cfg.font (charCode withF1.cfg 65)).getLast? = some (1, 6) :=
  ⟨witness_canRun_F1, rfl, by decide, by decide⟩
theorem witness_DrawCharRunsToEnd_unlit :
    pixelsInWindow withF1.cfg 5000 7000 (charPixels withF1.cfg.font (charCode withF1.cfg 66)) = true ∧
      (charPixels withF1.cfg.font (charCode withF1.cfg 66)).getLast? = none := by decide
theorem witness_DrawTextRunsToEnd :
    CanRun (fed [65, 66, 65, 66] withF1) ∧ (fed [65, 66, 65, 66] withF1).cfg.hasText = true ∧
      (4 : U32).toNat ≤ (fed [65, 66, 65, 66] withF1).payload.length ∧
      textInWindow withF1.cfg 0 0 (textCodes withF1.cfg [65, 66, 65, 66] 4) = true ∧
      (textPixels withF1.cfg 0 (textCodes withF1.cfg [65, 66, 65, 66] 4)).getLast? = some (12, 1, 6) :=
  ⟨witness_canRun_fed_F1 _, rfl, by decide, by decide, by decide⟩
theorem witness_DrawTextRunsToEnd_empty :
    CanRun (fed [] withF1) ∧ (fed [] withF1).cfg.hasText = true ∧
      (0 : U32).toNat ≤ (fed [] withF1).payload.length ∧
      textInWindow withF1.cfg 7000 5000 (textCodes withF1.cfg [] 0) = true ∧
      (textPixels withF1.cfg 5000 (textCodes withF1.cfg [] 0)).getLast? = none :=
  ⟨witness_canRun_fed_F1 _, rfl, by decide, by decide, by decide⟩
theorem witness_DrawTextRunsToEnd_unlit :
    CanRun (fed [66, 64] withF1) ∧ (2 : U32).toNat ≤ (fed [66, 64] withF1).payload.length ∧
      textInWindow withF1.cfg 7000 5000 (textCodes withF1.cfg [66, 64] 2) = true ∧
      (textPixels withF1.cfg 5000 (textCodes withF1.cfg [66, 64] 2)).getLast? = none :=
  ⟨witness_canRun_fed_F1 _, by decide, by decide, by decide⟩
theorem witness_DrawCharFaultsAtTheFirstPixelOutside :
    CanRun withF1 ∧ withF1.cfg.hasText = true ∧
      charPixels withF1.cfg.font (charCode withF1.cfg 65) = [(0, 0)] ++ (0, 7) :: [(1, 1), (1, 6)] ∧
      pixelsInWindow withF1.cfg 236 0 [(0, 0)] = true ∧ ¬(236 + 7 < withF1.cfg.width ∧ 0 + 0 < withF1.cfg.height) :=
  ⟨witness_canRun_F1, rfl, by decide, by decide, by decide⟩
theorem witness_DrawCharFaultsAtTheFirstPixelOutside_first :
    CanRun withF1 ∧
      charPixels withF1.cfg.font (charCode withF1.cfg 65) = [] ++ (0, 0) :: [(0, 7), (1, 1), (1, 6)] ∧
      pixelsInWindow withF1.cfg 240 0 [] = true ∧ ¬(240 + 0 < withF1.cfg.width ∧ 0 + 0 < withF1.cfg.height) :=
  ⟨witness_canRun_F1, by decide, by decide, by decide⟩
theorem witness_DrawTextFaultsAtTheFirstPixelOutside :
    CanRun (fed [66, 65] withF1) ∧ withF1.cfg.hasText = true ∧
    textCodes withF1.cfg [66, 65] 2 = [66] ++ 65 :: [] ∧ textInWindow withF1.cfg 0 230 [66] = true ∧
      charPixels withF1.cfg.font 65 = [(0, 0)] ++ (0, 7) :: [(1, 1), (1, 6)] ∧
      pixelsInWindow withF1.cfg (230 + [66].length * withF1.cfg.font.charWidth) 0 [(0, 0)] = true ∧
      ¬(230 + [66].length * withF1.cfg.font.charWidth + 7 < withF1.cfg.width ∧ 0 + 0 < withF1.cfg.height) :=
  ⟨witness_canRun_fed_F1 _, rfl, by decide, by decide, by decide, by decide, by decide⟩
theorem witness_TransportFailureStopsInPlace :
    CanAccept { State.reset with transport := [.fail 0] } ∧
      opViolation (.row .softReset) State.reset.cfg State.reset.latches = none ∧
      opPayloadNeeded (.row .softReset) ≤ State.reset.payload.length ∧
      opGeometryOk (.row .softReset) State.reset.cfg [] = true ∧
      opExpand (.row .softReset) State.reset.cfg [] = [.cs true, .dc false] ++ .tx [0x01] :: [.cs false, .wait 150] ∧
      [TxAnswer.fail 0] = List.replicate (txCount [.cs true, .dc false]) TxAnswer.ok ++ .fail 0 :: [] :=
  ⟨⟨rfl, by decide⟩, by decide, by decide, by decide, by decide, by decide⟩
theorem witness_EveryOperationEmitsItsExpansion :
    CanRun (fed [65] withF1) ∧ opViolation (.row (.drawText 1 0 0 7)) withF1.cfg withF1.latches = none ∧
      opPayloadNeeded (.row (.drawText 1 0 0 7)) ≤ (fed [65] withF1).payload.length ∧
      opGeometryOk (.row (.drawText 1 0 0 7)) withF1.cfg [65] = true :=
  ⟨witness_canRun_fed_F1 _, by decide, by decide, by decide⟩
theorem witness_EveryOperationEmitsItsExpansion_call :
    CanRun withF1 ∧ opViolation (.call (.drawText [66, 65] (-6) 0 7)) withF1.cfg withF1.latches = none ∧
      opPayloadNeeded (.call (.drawText [66, 65] (-6) 0 7)) ≤ withF1.payload.length ∧
      opGeometryOk (.call (.drawText [66, 65] (-6) 0 7)) withF1.cfg [] = true :=
  ⟨witness_canRun_F1, by decide, by decide, by decide⟩
theorem witness_SequencerAdvancesOneEventAtATime_accept :
    CanAccept (byEvent State.reset) ∧ (byEvent State.reset).grain = .event ∧
      opViolation (.row .initializePanel) State.reset.cfg State.reset.latches = none :=
  ⟨⟨rfl, by decide⟩, rfl, by decide⟩

theorem witness_running_position : PositionInv running := by
  show 1 ≤ eventCount (program .softReset running.cfg running.payload); decide
theorem witness_running_window : WindowInv running := by
  show readsWindowFirst (afterEvents 1 (program .softReset running.cfg running.payload)) = true → _; decide
theorem witness_running_pins : PinsInv running := ⟨⟨false, true, true⟩, rfl⟩

theorem witness_SequencerAdvancesOneEventAtATime :
    running.seq = .run (.row .softReset) 1 ∧ running.grain = .event ∧ running.resetIn = false ∧ running.timer = 0 ∧
      PositionInv running ∧ WindowInv running ∧
      nextIs (step running) (fun t => t.trace == [.done (.dc false)]) = true :=
  ⟨rfl, rfl, rfl, rfl, witness_running_position, witness_running_window, by decide⟩
/-- A state in which setAddressWindow is about to send the column payload from AW. -/
def addressing : State :=
  { State.reset with
    seq := .run (.row (.setAddressWindow 1 2 3 4)) 4, busy := true, pinCs := true, grain := .event, awValid := true,
    aw := windowLatches Cfg.scenario 1 2 3 4 }
theorem witness_addressing_position : PositionInv addressing := by
  show 4 ≤ eventCount (programWindow 1 2 3 4); decide
theorem witness_addressing_window : WindowInv addressing := fun _ => ⟨rfl, by decide⟩
theorem witness_SequencerAdvancesOneEventAtATime_window :
    PositionInv addressing ∧ WindowInv addressing ∧
      nextIs (step addressing) (fun t => t.trace == [.done (.tx [0, 1, 0, 3])]) = true :=
  ⟨witness_addressing_position, witness_addressing_window, by decide⟩
/-- A state in which softReset has emitted all its events. -/
def finishing : State := { running with seq := .run (.row .softReset) 5, pinCs := false, pinDc := false }
theorem witness_finishing_position : PositionInv finishing := by
  show 5 ≤ eventCount (program .softReset running.cfg running.payload); decide
theorem witness_finishing_window : WindowInv finishing := by
  show readsWindowFirst (afterEvents 5 (program .softReset running.cfg running.payload)) = true → _; decide
theorem witness_finishing_pins : PinsInv finishing := ⟨⟨false, true, true⟩, rfl⟩
theorem witness_SequencerAdvancesOneEventAtATime_complete :
    PositionInv finishing ∧ WindowInv finishing ∧ nextIs (step finishing) (fun t => t.seq == .idle) = true :=
  ⟨witness_finishing_position, witness_finishing_window, by decide⟩
/-- A state in which softReset is about to send its command and the transport will fail it. -/
def failing : State := { running with seq := .run (.row .softReset) 2, transport := [.fail 1] }
theorem witness_SequencerAdvancesOneEventAtATime_fault :
    PositionInv failing ∧ WindowInv failing ∧ nextIs (step failing) (fun t => t.seq == .faulted) = true := by
  refine ⟨?_, ?_, by decide⟩
  · show 2 ≤ eventCount (program .softReset running.cfg running.payload); decide
  · show readsWindowFirst (afterEvents 2 (program .softReset running.cfg running.payload)) = true → _; decide
/-- A state in which drawChar has drawn one pixel and the next is outside the panel. -/
def leaving : State :=
  { withF1 with seq := .run (.row (.drawChar 65 236 0 7)) 20, busy := true, grain := .event, pinCs := false, awValid := true }
theorem witness_SequencerAdvancesOneEventAtATime_geometry :
    PositionInv leaving ∧ WindowInv leaving ∧
      nextIs (step leaving) (fun t => t.seq == .faulted && t.faultCause == 2) = true := by
  refine ⟨?_, ?_, by decide⟩
  · show 20 ≤ eventCount (program (.drawChar 65 236 0 7) withF1.cfg []); decide
  · show readsWindowFirst (afterEvents 20 (program (.drawChar 65 236 0 7) withF1.cfg [])) = true → _; decide
/-- A state in which sendCommand waits for its payload. -/
def starving : State := { running with seq := .run (.row (.sendCommandData 3)) 2 }
theorem witness_SequencerAdvancesOneEventAtATime_wait :
    PositionInv starving ∧ WindowInv starving ∧
      nextIs (step starving) (fun t => t.seq == .run (.row (.sendCommandData 3)) 2) = true := by
  refine ⟨?_, ?_, by decide⟩
  · show 2 ≤ eventCount (program (.sendCommandData 3) running.cfg running.payload); decide
  · show readsWindowFirst (afterEvents 2 (program (.sendCommandData 3) running.cfg running.payload)) = true → _; decide
theorem witness_WaitHoldsTheSequencerForItsTicks :
    ({ running with timer := 2 }).seq = .run (.row .softReset) 1 ∧ ({ running with timer := 2 }).grain = .event ∧
      ({ running with timer := 2 }).resetIn = false ∧ ({ running with timer := 2 }).timer = 2 := by decide
theorem witness_WaitHoldsTheSequencerForItsTicks_load :
    ({ running with seq := .run (.row .softReset) 4 }).seq = .run (.row .softReset) 4 ∧ running.timer = 0 ∧
      (opExpand (.row .softReset) running.cfg running.payload)[4]? = some (.wait 150) ∧
      nextIs (step { running with seq := .run (.row .softReset) 4 }) (fun t => t.timer == 150) = true := by decide
theorem witness_SmallStepsReachTheBigStep :
    CanAccept State.reset ∧ State.reset.resetIn = false ∧
      nextIs (execOp (.row .softReset) { State.reset with grain := .operation }) (fun _ => true) = true :=
  ⟨witness_canAccept, rfl, by decide⟩
theorem witness_ShortPayloadLeavesTheBlockWaiting :
    CanRun (fed [1] State.reset) ∧ (fed [1] State.reset).resetIn = false ∧
      violation (.sendCommandData 3) State.reset.cfg State.reset.latches = none ∧
      (fed [1] State.reset).payload.length < payloadNeeded (.sendCommandData 3) ∧
      textGeometryOk (.sendCommandData 3) State.reset.cfg [1] = true :=
  ⟨witness_canRun_fed _, rfl, by decide, by decide, by decide⟩
theorem witness_ShortPayloadLeavesTheBlockWaiting_forms :
    payloadNeeded (.sendCommandCmdData 0x2C 2) = 2 ∧ payloadNeeded (.blitBuffer 0 0 1 1 2) = 2 ∧
      violation (.blitBuffer 0 0 1 1 2) State.reset.cfg State.reset.latches = none ∧
      payloadNeeded (.drawText 2 0 0 7) = 2 ∧ textGeometryOk (.drawText 2 0 0 7) withF1.cfg [65] = true ∧
      nextIs (exec (.drawText 2 0 0 7) (fed [65] withF1)) (fun t => t.seq == .run (.row (.drawText 2 0 0 7)) 80) = true := by
  decide +kernel
theorem witness_DeliveredPayloadCompletesTheOperation :
    CanRun (fed [1] State.reset) ∧ (fed [1] State.reset).resetIn = false ∧
      violation (.sendCommandData 3) State.reset.cfg State.reset.latches = none ∧
      textGeometryOk (.sendCommandData 3) State.reset.cfg [1, 2, 3] = true ∧
      (fed [1] State.reset).payload.length < payloadNeeded (.sendCommandData 3) ∧
    payloadNeeded (.sendCommandData 3) ≤ ((fed [1] State.reset).payload ++ [2, 3]).length ∧
      nextIs (exec (.sendCommandData 3) (fed [1] State.reset)) (fun t => t.seq == .run (.row (.sendCommandData 3)) 2) = true :=
  ⟨witness_canRun_fed _, rfl, by decide, by decide, by decide, by decide, by decide⟩
theorem witness_CompletedOperationsAreWellFramed :
    CanAccept State.reset ∧ State.reset.grain = .operation ∧ State.reset.pinCs = false ∧
      nextIs (execOp (.row .softReset) State.reset) (fun t => t.seq == .idle) = true :=
  ⟨witness_canAccept, rfl, rfl, by decide⟩
theorem witness_CompletedOperationsAreWellFramed_resume :
    finishing.seq = .run (.row .softReset) 5 ∧ PositionInv finishing ∧ WindowInv finishing ∧ PinsInv finishing ∧
      opViolation (.row .softReset) finishing.cfg finishing.latches = none ∧
      nextIs (resume (.row .softReset) 5 finishing) (fun t => t.seq == .idle) = true :=
  ⟨rfl, witness_finishing_position, witness_finishing_window, witness_finishing_pins, by decide, by decide⟩
theorem witness_ResetLineIsWrittenOnlyByHardReset :
    pulsesReset (.row .softReset) = false ∧ pulsesReset (.row .hardReset) = true ∧
      nextIs (execOp (.row .softReset) State.reset) (fun t => t.pinRst) = true ∧
      nextIs (resume (.row .softReset) 1 running) (fun t => t.pinRst) = true ∧
      nextIs (execOp (.row .hardReset) { State.reset with pinRst := false }) (fun t => t.pinRst) = true := by decide
/-- A state in which hardReset has emitted all its events, the reset line having been low before. -/
def pulsed : State := { running with seq := .run (.row .hardReset) 8, pinCs := false }
theorem witness_ResetLineIsWrittenOnlyByHardReset_resume :
    pulsesReset (.row .hardReset) = true ∧ pulsed.seq = .run (.row .hardReset) 8 ∧ PositionInv pulsed ∧ PinsInv pulsed ∧
      nextIs (resume (.row .hardReset) 8 pulsed) (fun t => t.seq == .idle && t.pinRst) = true := by
  refine ⟨by decide, rfl, ?_, ⟨⟨false, true, false⟩, rfl⟩, by decide⟩
  show 8 ≤ eventCount (program .hardReset running.cfg running.payload); decide
theorem witness_ConfigurationNeverChanges : nextIs (step running) (fun _ => true) = true := by decide
theorem witness_StepKeepsTheStatusInvariant : StatusInv running ∧ nextIs (step running) (fun _ => true) = true :=
  ⟨⟨rfl, rfl, fun _ => ⟨rfl, rfl⟩, fun h => by simp [running, State.reset] at h, by decide⟩, by decide⟩
theorem witness_StepKeepsThePositionBounded :
    PositionInv running ∧ WindowInv running ∧ PinsInv running ∧ nextIs (step running) (fun _ => true) = true :=
  ⟨witness_running_position, witness_running_window, witness_running_pins, by decide⟩
theorem witness_StepKeepsTheWindowWritten : WindowInv addressing ∧ nextIs (step addressing) (fun _ => true) = true :=
  ⟨witness_addressing_window, by decide⟩
theorem witness_DecodeOfEncodeIsTheInstruction : (Instr.reserved 0xFF).wellFormed = true := by decide
theorem witness_DecodedInstructionsAreWellFormed : decode (.frame [(false, 0x2C)]) = .ok .wireMemoryWrite := by rfl
theorem witness_OperandsComeFromTheirFields :
    (requestWord 0x02 0 1 2 3 4 0 0).extractLsb' 120 8 = 0x02#8 ∧ (requestWord 0x09 1 0 0 0 0 0 0).extractLsb' 120 8 = 0x09#8 ∧
      (requestWord 0x0F 0 0 0 0 0 0 0).extractLsb' 120 8 = 0x0F#8 ∧
      (requestWord 0x10 0 0 0 0 0 0 0).extractLsb' 120 8 = 0x10#8 := by decide
-- the ignored bits of a sendCommand word set: FLAGS[7:1], A[15:8], B to E, and A without HASOP
theorem witness_OperandsComeFromTheirFields_sendCommand :
    (requestWord 0x01 0xFF 0xAB2C 1 2 3 4 0).extractLsb' 120 8 = 0x01#8 ∧
      (requestWord 0x01 0xFF 0xAB2C 1 2 3 4 0).getLsbD 112 = true ∧
      (requestWord 0x01 0xFF 0xAB2C 1 2 3 4 0).extractLsb' 0 32 = 0#32 ∧
      (requestWord 0x01 0xFF 0xAB2C 1 2 3 4 0).extractLsb' 96 8 = 0x2C#8 ∧
      (requestWord 0x01 0xFE 0xAB2C 1 2 3 4 9).getLsbD 112 = false ∧
      (requestWord 0x01 0xFE 0xAB2C 1 2 3 4 9).extractLsb' 0 32 ≠ 0#32 := by decide
theorem test_dec_sendCommand_junk :
    decodeTableWord 128 0x01FFAB2C000100020003000400000000 = some (.sendCommandCmd 0x2C) ∧
      decodeTableWord 128 0x0103FF13000100020003000400000000 = some .normalDisplayOn ∧
      decodeTableWord 128 0x0103FF2C000100020003000400000009 = some (.sendCommandCmdData 0x2C 9) ∧
      decodeTableWord 128 0x01FEAB13000100020003000400000009 = some (.sendCommandData 9) ∧
      decodeTableWord 128 0x01FEAB29000100020003000400000000 = some .sendCommandNone := by decide
theorem witness_OperationCountsAreTheTables :
    (1 : U32) ≠ 0 ∧ (1 : U32).toNat ≤ [0x55#8].length ∧ 1 ≤ Cfg.scenario.chunkPixels ∧
      (2 : U32).toNat = 2 * (1 : U16).toNat * (1 : U16).toNat ∧ (2 : U32).toNat ≤ [0x55#8, 0x66#8].length := by decide

end Sys2Proof.Tests
end

section
/-! SUPPORT. What a micro step that goes on does, and the two obligations about the run of a program
as a whole: what is refused (92_eei_decisions.md D6), and that the two descriptions of an operation
agree (00_scope.md R14). -/

namespace Sys2Proof.Machine

/-! ## The frame of an answer taken (R30) -/

@[simp] theorem takeAnswer_cfg (e : Event) (s : State) : (takeAnswer e s).cfg = s.cfg := by cases e <;> rfl
@[simp] theorem takeAnswer_seq (e : Event) (s : State) : (takeAnswer e s).seq = s.seq := by cases e <;> rfl
@[simp] theorem takeAnswer_aw (e : Event) (s : State) : (takeAnswer e s).aw = s.aw := by cases e <;> rfl
@[simp] theorem takeAnswer_awValid (e : Event) (s : State) : (takeAnswer e s).awValid = s.awValid := by cases e <;> rfl
@[simp] theorem takeAnswer_ready (e : Event) (s : State) : (takeAnswer e s).ready = s.ready := by cases e <;> rfl
@[simp] theorem takeAnswer_fault (e : Event) (s : State) : (takeAnswer e s).fault = s.fault := by cases e <;> rfl
@[simp] theorem takeAnswer_trace (e : Event) (s : State) : (takeAnswer e s).trace = s.trace := by cases e <;> rfl
@[simp] theorem takeAnswer_grain (e : Event) (s : State) : (takeAnswer e s).grain = s.grain := by cases e <;> rfl
@[simp] theorem takeAnswer_resetIn (e : Event) (s : State) : (takeAnswer e s).resetIn = s.resetIn := by cases e <;> rfl
@[simp] theorem takeAnswer_payload (e : Event) (s : State) : (takeAnswer e s).payload = s.payload := by cases e <;> rfl

/-! ## A micro step that goes on -/

/-- The event a micro step emits while AW holds `w`; none for work between events (R26, R28). -/
def eventOf (w : AddressWindow) : Micro → Option Event
  | .emit e => some e
  | .columnPayload => some (.tx (be16 w.xs ++ be16 w.xe))
  | .rowPayload => some (.tx (be16 w.ys ++ be16 w.ye))
  | .window _ _ _ _ => none
  | .glyphPixel _ _ _ _ => none
  | .remaining _ => none
  | .cursor _ _ => none
  | .awaitPayload => none

/-- The state with other values in AW, in the bit that says it is written, and in the work counters:
all that work between events writes (R26, R29). -/
def worked (s : State) (aw : AddressWindow) (valid : Bool) (work : Work) : State :=
  { s with aw := aw, awValid := valid, work := work }

/-- The state after a micro step that is work between events: AW holds the window it writes, if it
writes one, and the work counters are `work`. -/
def afterWork (m : Micro) (work : Work) (s : State) : State :=
  worked s ((windowOf s.cfg m).getD s.aw) ((windowOf s.cfg m).isSome || s.awValid) work

theorem emit_go {e : Event} {s s' : State} (h : emit e s = .go s') : s' = emitDone e (takeAnswer e s) := by
  obtain ⟨hgo, -⟩ | ⟨_, _, _, -, -, hhalt⟩ := emit_cases e s
  · simpa [hgo] using h.symm
  · simp [hhalt] at h

theorem emitPosition_go {a b : U16} {s s' : State} (h : emitPosition a b s = .go s') :
    s' = emitDone (.tx (be16 a ++ be16 b)) (takeAnswer (.tx (be16 a ++ be16 b)) s) := by
  obtain ⟨-, hemit⟩ | ⟨-, hbroken⟩ := emitPosition_cases a b s
  · exact emit_go (hemit ▸ h)
  · simp [hbroken] at h

theorem openWindow_go {x0 y0 x1 y1 : Int} {s s' : State} (h : openWindow x0 y0 x1 y1 s = .go s') :
    s' = writeWindow x0 y0 x1 y1 s := by
  obtain ⟨-, hgo⟩ | ⟨-, hhalt⟩ := openWindow_cases x0 y0 x1 y1 s
  · simpa [hgo] using h.symm
  · simp [hhalt] at h

/-- The state in which the lit pixel (row, col) of a glyph is reached and its window not yet opened
(R29). -/
def pixelReached (row col : Nat) (s : State) : State :=
  worked s s.aw s.awValid { s.work with row := row, col := col }

/-- A micro step that goes on emits its event and applies it, AW untouched, or it is work between
events, which leaves AW the window it writes if it writes one. -/
theorem perform_go_cases {m : Micro} {s s' : State} (h : perform m s = .go s') :
    (isEvent m = true ∧ windowOf s.cfg m = none ∧
      ∃ e, eventOf s.aw m = some e ∧ s' = emitDone e (takeAnswer e s)) ∨
    (isEvent m = false ∧ eventOf s.aw m = none ∧ ∃ work, s' = afterWork m work s) := by
  cases m with
  | emit e => exact .inl ⟨rfl, rfl, e, rfl, emit_go h⟩
  | columnPayload => exact .inl ⟨rfl, rfl, _, rfl, emitPosition_go h⟩
  | rowPayload => exact .inl ⟨rfl, rfl, _, rfl, emitPosition_go h⟩
  | window x0 y0 x1 y1 => exact .inr ⟨rfl, rfl, _, openWindow_go h⟩
  | glyphPixel x y row col => exact .inr ⟨rfl, rfl, _, openWindow_go (s := pixelReached row col s) h⟩
  | remaining n => exact .inr ⟨rfl, rfl, _, (Progress.go.inj h).symm⟩
  | cursor chari cur => exact .inr ⟨rfl, rfl, _, (Progress.go.inj h).symm⟩
  | awaitPayload => cases h

/-! ## What is refused (D6) -/

theorem runMicros_ne_refused (op : Op) (ms : List Micro) (s : State) (why : Refusal) :
    runMicros op ms s ≠ .refused why := by
  induction ms generalizing s with
  | nil => simp [runMicros_nil]
  | cons m ms ih =>
    cases hm : perform m s with
    | go s' => rw [runMicros_go op m ms s s' hm]; exact ih _
    | halt s' => simp [runMicros_halt op m ms s s' hm]
    | broken f => simp [runMicros_broken op m ms s f hm]

theorem launch_ne_refused (op : Op) (ms : List Micro) (s : State) (why : Refusal) :
    launch op ms s ≠ .refused why := by
  cases hg : s.grain with
  | operation => simpa [launch, hg] using runMicros_ne_refused op ms (begin op s) why
  | event => simp [launch, hg]

theorem cfgLegal_iff (c : Cfg) :
    cfgLegal c = true ↔ 1 ≤ c.width ∧ 1 ≤ c.height ∧ c.width + c.xOffset ≤ 65536 ∧
      c.height + c.yOffset ≤ 65536 ∧ 1 ≤ c.chunkPixels := by
  simp [cfgLegal, and_assoc]

theorem accept_refuses_of_not_legal (op : Op) (check : Option Violation) (ms : List Micro) (s : State)
    (hs : s.seq = .idle) (hc : cfgLegal s.cfg = false) :
    accept op check ms s = .refused .illegalConfiguration := by
  simp [accept, hs, hc]

theorem accept_ne_refused_of_legal (op : Op) (check : Option Violation) (ms : List Micro) (s : State)
    (hc : cfgLegal s.cfg = true) (why : Refusal) : accept op check ms s ≠ .refused why := by
  obtain ⟨-, h⟩ | ⟨-, hbad, -⟩ | ⟨-, v, -, h⟩ | ⟨-, -, h⟩ := accept_cases op check ms s
  · simp [h]
  · simp [hc] at hbad
  · simp [h]
  · simpa [h] using launch_ne_refused op ms s why

/-- Settles O7: the acceptance looks at the configuration first, and no other part of a meaning refuses. -/
theorem illegalConfigurationIsRefused : Obligations.IllegalConfigurationIsRefused := by
  intro op s hs
  rw [execOp_eq_accept]
  refine ⟨fun hbad => accept_refuses_of_not_legal _ _ _ _ hs ?_, fun hw hh hx hy hn why =>
    accept_ne_refused_of_legal _ _ _ _ ((cfgLegal_iff _).mpr ⟨hw, hh, hx, hy, hn⟩) why⟩
  rw [Bool.eq_false_iff, ne_eq, cfgLegal_iff]
  omega

/-! ## The grain does not show in the run of a program (R14) -/

/-- The state at another grain. -/
def atGrain (g : Grain) (s : State) : State := { s with grain := g }

/-- What a micro step leads to, seen through a change of the state. -/
def Progress.map (f : State → State) : Progress → Progress
  | .go s => .go (f s)
  | .halt s => .halt (f s)
  | .broken r => .broken r

theorem emit_atGrain (g : Grain) (e : Event) (s : State) :
    emit e (atGrain g s) = (emit e s).map (atGrain g) := by
  cases e with
  | cs a => rfl
  | dc l => rfl
  | rst l => rfl
  | wait n => rfl
  | tx bs =>
    have ht : (atGrain g s).transport = s.transport := rfl
    rcases h : s.transport with - | ⟨- | sent, rest⟩ <;> simp only [emit, ht, h] <;> rfl

theorem openWindow_atGrain (g : Grain) (x0 y0 x1 y1 : Int) (s : State) :
    openWindow x0 y0 x1 y1 (atGrain g s) = (openWindow x0 y0 x1 y1 s).map (atGrain g) := by
  have hc : (atGrain g s).cfg = s.cfg := rfl
  cases h : windowViolation s.cfg x0 y0 x1 y1 <;> simp only [openWindow, hc, h] <;> rfl

theorem emitPosition_atGrain (g : Grain) (a b : U16) (s : State) :
    emitPosition a b (atGrain g s) = (emitPosition a b s).map (atGrain g) := by
  have hv : (atGrain g s).awValid = s.awValid := rfl
  cases h : s.awValid
  · simp [emitPosition, hv, h, Progress.map]
  · simpa [emitPosition, hv, h] using emit_atGrain g _ s

theorem perform_atGrain (g : Grain) (m : Micro) (s : State) :
    perform m (atGrain g s) = (perform m s).map (atGrain g) := by
  cases m with
  | emit e => exact emit_atGrain g e s
  | columnPayload => exact emitPosition_atGrain g s.aw.xs s.aw.xe s
  | rowPayload => exact emitPosition_atGrain g s.aw.ys s.aw.ye s
  | window x0 y0 x1 y1 => exact openWindow_atGrain g x0 y0 x1 y1 s
  | glyphPixel x y row col => exact openWindow_atGrain g _ _ _ _ (pixelReached row col s)
  | remaining n => rfl
  | cursor chari cur => rfl
  | awaitPayload => rfl

theorem runMicros_atGrain (g : Grain) (op : Op) (ms : List Micro) (s t : State)
    (h : runMicros op ms s = .next t) : runMicros op ms (atGrain g s) = .next (atGrain g t) := by
  induction ms generalizing s with
  | nil => cases h; rfl
  | cons m ms ih =>
    have hg := perform_atGrain g m s
    cases hm : perform m s with
    | go s' =>
      rw [runMicros_go op m ms _ _ (by rw [hg, hm]; rfl)]
      exact ih (settleWait s') (runMicros_go op m ms s s' hm ▸ h)
    | halt s' =>
      rw [runMicros_halt op m ms _ (atGrain g s') (by rw [hg, hm]; rfl)]
      cases (runMicros_halt op m ms s s' hm).symm.trans h
      rfl
    | broken f => cases (runMicros_broken op m ms s f hm).symm.trans h

/-! ## The sequencer, one event per step (R28) -/

/-- Some number of steps from `s` answers `t`. -/
def Reaches (s t : State) : Prop := ∃ n, Host.Core.run Sys2Proof.core n s = .next t

theorem Reaches.refl (s : State) : Reaches s s := ⟨0, rfl⟩

theorem Reaches.head {s u t : State} (h : step s = .next u) : Reaches u t → Reaches s t := by
  rintro ⟨n, hn⟩
  exact ⟨n + 1, by simpa [Host.Core.run, Sys2Proof.core, h] using hn⟩

/-- The sequencer stands in RUN(op, k), a step emits one event, and the reset line is low. -/
structure RunsByEvent (op : Op) (k : Nat) (s : State) : Prop where
  seq : s.seq = .run op k
  grain : s.grain = .event
  resetIn : s.resetIn = false

theorem RunsByEvent.step_eq {op : Op} {k : Nat} {s : State} (h : RunsByEvent op k s) (ht : s.timer = 0) :
    step s = runOneEvent op (afterEvents k (opProgram op s.cfg s.payload)) s := by
  simp [step, stepBlock, resume, h.seq, h.grain, h.resetIn, ht]

theorem RunsByEvent.step_eq_tick {op : Op} {k : Nat} {s : State} (h : RunsByEvent op k s) (ht : s.timer ≠ 0) :
    step s = .next (tick s) := by
  simp [step, stepBlock, resume, h.seq, h.grain, h.resetIn, ht]

theorem RunsByEvent.emitDone {op : Op} {k : Nat} {s : State} (h : RunsByEvent op k s) (e : Event) :
    RunsByEvent op (k + 1) (emitDone e (takeAnswer e s)) :=
  ⟨by simp [h.seq, advanceSeq], by simp [h.grain], by simp [h.resetIn]⟩

theorem settleWait_of_timer_zero {s : State} (h : s.timer = 0) : settleWait s = s := by
  cases s; cases h; rfl

/-- A wait being counted ends, one tick per step (R232). -/
theorem RunsByEvent.reaches_of_settled {op : Op} {k : Nat} {s t : State} (h : RunsByEvent op k s)
    (hr : Reaches (settleWait s) t) : Reaches s t := by
  induction hn : s.timer generalizing s with
  | zero => rwa [settleWait_of_timer_zero hn] at hr
  | succ n ih =>
    have hticked : RunsByEvent op k (tick s) := ⟨h.seq, h.grain, h.resetIn⟩
    exact .head (h.step_eq_tick (by simp [hn])) (ih hticked hr (by simp [hn]))

theorem afterEvents_zero (ms : List Micro) : afterEvents 0 ms = ms := by cases ms <;> rfl

theorem afterEvents_one_afterEvents (k : Nat) (ms : List Micro) :
    afterEvents 1 (afterEvents k ms) = afterEvents (k + 1) ms := by
  induction ms generalizing k with
  | nil => cases k <;> rfl
  | cons m ms ih =>
    cases k with
    | zero => rfl
    | succ k =>
      cases hm : isEvent m
      · simpa [afterEvents, hm] using ih (k + 1)
      · simpa [afterEvents, hm] using ih k

/-- The simulation. A step from `b` has come by work between events to `s`, with `ms` still to run;
then the steps from `b` reach what the run of `ms` to its end answers. The premise `hrest` says that
`ms` and the operation's program agree from the next event on. -/
theorem reaches_of_runMicros {op : Op} {k : Nat} {ms : List Micro} {b s t : State}
    (hs : RunsByEvent op k s) (ht : s.timer = 0) (hstep : step b = runOneEvent op ms s)
    (hrest : afterEvents 1 ms = afterEvents (k + 1) (opProgram op s.cfg s.payload))
    (hrun : runMicros op ms s = .next t) : Reaches b t := by
  induction ms generalizing b s k with
  | nil => exact .head (hstep.trans hrun) (.refl t)
  | cons m ms ih =>
    cases hm : perform m s with
    | halt s' =>
      have hone : runOneEvent op (m :: ms) s = .next s' := by simp [runOneEvent, hm]
      rw [runMicros_halt op m ms s s' hm] at hrun
      exact .head (hstep.trans (hone.trans hrun)) (.refl t)
    | broken f => cases (runMicros_broken op m ms s f hm).symm.trans hrun
    | go s' =>
      rw [runMicros_go op m ms s s' hm] at hrun
      obtain ⟨he, -, e, -, rfl⟩ | ⟨he, -, work, rfl⟩ := perform_go_cases hm
      · have hnext := hs.emitDone e
        have hleft : ms = afterEvents (k + 1) (opProgram op s.cfg s.payload) := by
          simpa [afterEvents, he] using hrest
        refine .head (hstep.trans (runOneEvent_go_event op m ms s _ hm he)) (hnext.reaches_of_settled ?_)
        have hsettled : RunsByEvent op (k + 1) (settleWait (emitDone e (takeAnswer e s))) :=
          ⟨hnext.seq, hnext.grain, hnext.resetIn⟩
        refine ih hsettled rfl ?_ ?_ hrun
        · rw [hsettled.step_eq rfl]
          simp [← hleft]
        · rw [← afterEvents_one_afterEvents (k + 1)]
          simp [← hleft]
      · rw [settleWait_of_timer_zero (s := afterWork m work s) ht] at hrun
        refine ih (s := afterWork m work s) ⟨hs.seq, hs.grain, hs.resetIn⟩ ht ?_ ?_ hrun
        · exact hstep.trans (runOneEvent_go_work op m ms s _ hm he)
        · show afterEvents 1 ms = afterEvents (k + 1) (opProgram op s.cfg s.payload)
          simpa [afterEvents, he] using hrest

/-! ## The three ways an operation can start -/

theorem execOp_raises {op : Op} {s : State} {v : Violation} (h : CanAccept s)
    (hv : opViolation op s.cfg s.latches = some v) : execOp op s = .next (raise v s) := by
  rw [execOp_eq_accept, hv, accept_raises _ _ _ _ h]

theorem execOp_runs {op : Op} {s : State} (h : CanAccept s) (hg : s.grain = .operation)
    (hv : opViolation op s.cfg s.latches = none) :
    execOp op s = runMicros op (opProgram op s.cfg s.payload) (begin op s) := by
  rw [execOp_eq_accept, hv, accept_runs _ _ _ h hg]

theorem execOp_begins {op : Op} {s : State} (h : CanAccept s) (hg : s.grain = .event)
    (hv : opViolation op s.cfg s.latches = none) : execOp op s = .next (begin op s) := by
  rw [execOp_eq_accept, hv, accept_begins _ _ _ h hg]

/-- Settles O46: a failed check is the same step at both grains; otherwise the simulation begins at
the acceptance, where no event has been emitted. -/
theorem smallStepsReachTheBigStep : Obligations.SmallStepsReachTheBigStep := by
  intro op s t hs hreset hbig
  have hbig' : execOp op (atGrain .operation s) = .next t := hbig
  have hcan : ∀ g, CanAccept (atGrain g s) := fun _ => hs
  suffices h : ∃ u, execOp op (atGrain .event s) = .next u ∧ Reaches u (atGrain .event t) by
    obtain ⟨u, hu, n, hn⟩ := h
    exact ⟨n, u, hu, hn⟩
  cases hv : opViolation op s.cfg s.latches with
  | some v =>
    cases (execOp_raises (hcan .operation) hv).symm.trans hbig'
    exact ⟨_, execOp_raises (hcan .event) hv, .refl _⟩
  | none =>
    have hrun := runMicros_atGrain .event op _ _ _ ((execOp_runs (hcan .operation) rfl hv).symm.trans hbig')
    have hbegun : RunsByEvent op 0 (begin op (atGrain .event s)) := ⟨rfl, rfl, hreset⟩
    have hstep := hbegun.step_eq rfl
    rw [afterEvents_zero] at hstep
    exact ⟨_, execOp_begins (hcan .event) rfl hv, reaches_of_runMicros hbegun rfl hstep rfl hrun⟩

end Sys2Proof.Machine
end

section
/-! SUPPORT. The events a program emits, read off the program; that the sequencer emits them when every
window it opens is in the panel, no payload is lacking and the transport answers ok; and that for every
operation they are its expansion (00_scope.md R14). -/

namespace Sys2Proof.Machine

/-! ## The events of a program -/

/-- The events a program emits when it is not stopped, AW holding `w` at its beginning. -/
def programEvents (c : Cfg) (w : AddressWindow) : List Micro → List Event
  | [] => []
  | m :: ms => (eventOf w m).toList ++ programEvents c ((windowOf c m).getD w) ms

/-- AW after a program holds the last window it writes, or what it held. -/
theorem lastWindow_cons_getD (c : Cfg) (w : AddressWindow) (m : Micro) (ms : List Micro) :
    (lastWindow c (m :: ms)).getD w = (lastWindow c ms).getD ((windowOf c m).getD w) := by
  cases h : lastWindow c ms <;> simp [lastWindow, h]

theorem programEvents_append (c : Cfg) (w : AddressWindow) (ms ns : List Micro) :
    programEvents c w (ms ++ ns) = programEvents c w ms ++ programEvents c ((lastWindow c ms).getD w) ns := by
  induction ms generalizing w with
  | nil => rfl
  | cons m ms ih => simp [programEvents, ih, lastWindow_cons_getD]

/-- The events of a program that reads nothing of AW but what it has itself written. -/
structure Emits (c : Cfg) (ms : List Micro) (es : List Event) : Prop where
  events : ∀ w, programEvents c w ms = es
  writesFirst : readsWindowFirst ms = false

theorem readsWindowFirst_append {ms ns : List Micro} (h : readsWindowFirst ms = false)
    (h' : readsWindowFirst ns = false) : readsWindowFirst (ms ++ ns) = false := by
  induction ms with
  | nil => exact h'
  | cons m ms ih => cases m <;> simp_all [readsWindowFirst]

theorem readsWindowFirst_emitAll (es : List Event) : readsWindowFirst (emitAll es) = false := by
  induction es with
  | nil => rfl
  | cons e es ih => exact ih

theorem Emits.nil (c : Cfg) : Emits c [] [] := ⟨fun _ => rfl, rfl⟩

theorem Emits.append {c : Cfg} {ms ns : List Micro} {es fs : List Event} (h : Emits c ms es) (h' : Emits c ns fs) :
    Emits c (ms ++ ns) (es ++ fs) :=
  ⟨fun w => by rw [programEvents_append, h.events w, h'.events _],
    readsWindowFirst_append h.writesFirst h'.writesFirst⟩

theorem Emits.emitAll (c : Cfg) (es : List Event) : Emits c (emitAll es) es := by
  refine ⟨fun w => ?_, readsWindowFirst_emitAll es⟩
  induction es with
  | nil => rfl
  | cons e es ih => exact congrArg (e :: ·) ih

theorem Emits.flatMap {α : Type} {c : Cfg} {f : α → List Micro} {g : α → List Event}
    (h : ∀ a, Emits c (f a) (g a)) (l : List α) : Emits c (l.flatMap f) (l.flatMap g) := by
  induction l with
  | nil => exact .nil c
  | cons a l ih => exact (h a).append ih

theorem Emits.remaining {c : Cfg} {ms : List Micro} {es : List Event} (n : Nat) (h : Emits c ms es) :
    Emits c (.remaining n :: ms) es := ⟨h.events, h.writesFirst⟩

theorem Emits.cursor {c : Cfg} {ms : List Micro} {es : List Event} (chari : Nat) (cur : Int) (h : Emits c ms es) :
    Emits c (.cursor chari cur :: ms) es := ⟨h.events, h.writesFirst⟩

theorem emits_programWindow (c : Cfg) (x0 y0 x1 y1 : Int) :
    Emits c (programWindow x0 y0 x1 y1) (expandSetAddressWindow c x0 y0 x1 y1) := ⟨fun _ => rfl, rfl⟩

theorem emits_programDrawPixel (c : Cfg) (x y : Int) (color : U16) :
    Emits c (programDrawPixel x y color) (expandDrawPixel c x y color) :=
  (emits_programWindow c x y x y).append (.emitAll c _)

theorem emits_programFullBatches (c : Cfg) (chunk : Nat) (color : U16) (q total : Nat) :
    Emits c (programFullBatches chunk color q total) (List.replicate q (batch color chunk)).flatten := by
  induction q generalizing total with
  | zero => exact .nil c
  | succ q ih => exact Emits.append (es := batch color chunk) ⟨fun _ => rfl, rfl⟩ (ih (total - chunk))

theorem emits_programBatches (c : Cfg) (chunk : Nat) (color : U16) (n : Nat) :
    Emits c (programBatches chunk color n) (fillBatches chunk color n) := by
  refine Emits.append (.remaining n (emits_programFullBatches c chunk color (n / chunk) n)) ?_
  split
  · exact ⟨fun _ => rfl, rfl⟩
  · exact .nil c

theorem emits_programFill (c : Cfg) (x y w h : Int) (color : U16) :
    Emits c (programFill c x y w h color) (expandFill c x y w h color) :=
  (emits_programWindow c x y (x + w - 1) (y + h - 1)).append (emits_programBatches c _ color _)

theorem emits_programInitialize (c : Cfg) : Emits c (programInitialize c) (expandInitialize c) :=
  ((Emits.emitAll c _).append (emits_programFill c 0 0 c.width c.height c.initFillColor)).append (.emitAll c _)

theorem emits_programDrawChar (c : Cfg) (code : Nat) (x y : Int) (color : U16) :
    Emits c (programDrawChar c code x y color) (expandDrawChar c code x y color) :=
  Emits.flatMap (fun _ => ⟨fun _ => rfl, rfl⟩) _

theorem emits_programText (c : Cfg) (y : Int) (color : U16) (chari : Nat) (cur : Int) (codes : List Nat) :
    Emits c (programText c y color chari cur codes) (expandDrawText c y color cur codes) := by
  induction codes generalizing chari cur with
  | nil => exact ⟨fun _ => rfl, rfl⟩
  | cons code codes ih =>
    exact (Emits.cursor chari cur (emits_programDrawChar c code cur y color)).append (ih (chari + 1) _)

theorem payloadBytes_of_le {payload : List Byte} {n : Nat} (h : n ≤ payload.length) :
    payloadBytes payload n = some (payload.take n) := if_pos h

theorem emits_programSendCommand (c : Cfg) (opcode : Option Byte) {plen : U32} {payload : List Byte}
    (h : plen.toNat ≤ payload.length) :
    Emits c (programSendCommand opcode plen payload) (expandSendCommand opcode plen payload) := by
  simpa [programSendCommand, payloadBytes_of_le h] using Emits.emitAll c _

theorem emits_programBlit (c : Cfg) (x y w h : Int) {plen : U32} {payload : List Byte}
    (hp : plen.toNat ≤ payload.length) :
    Emits c (programBlit x y w h plen payload) (expandBlit c x y w h (payload.take plen.toNat)) := by
  simpa [programBlit, programRectangleWindow, expandBlit, expandRectangleWindow, payloadBytes_of_le hp] using
    (emits_programWindow c x y (x + w - 1) (y + h - 1)).append (.emitAll c _)

theorem emits_programDrawText (c : Cfg) (x y : Int) (color : U16) {plen : U32} {payload : List Byte}
    (hp : plen.toNat ≤ payload.length) :
    Emits c (programDrawText c plen x y color payload)
      (expandDrawText c y color x ((payload.take plen.toNat).map (charCode c))) := by
  simpa [programDrawText, payloadBytes_of_le hp] using emits_programText c y color 0 x _

theorem emits_program (i : Instr) (c : Cfg) (payload : List Byte) (h : payloadNeeded i ≤ payload.length) :
    Emits c (program i c payload) (expand i c payload) := by
  cases i with
  | sendCommandCmd opcode => exact emits_programSendCommand c _ (plen := 0) (Nat.zero_le _)
  | sendCommandCmdData opcode plen => exact emits_programSendCommand c _ h
  | sendCommandData plen => exact emits_programSendCommand c _ h
  | sendCommandNone => exact .nil c
  | reserved op => exact .nil c
  | setAddressWindow x0 y0 x1 y1 => exact emits_programWindow c _ _ _ _
  | drawPixel x y color => exact emits_programDrawPixel c _ _ color
  | fillRectangle x y w h color => exact emits_programFill c _ _ _ _ color
  | fillScreen color => exact emits_programFill c _ _ _ _ color
  | blitBuffer x y w h plen => exact emits_programBlit c _ _ _ _ h
  | initializePanel => exact emits_programInitialize c
  | drawChar code x y color => exact emits_programDrawChar c _ _ _ color
  | drawText plen x y color => exact emits_programDrawText c _ _ color h
  | _ => exact .emitAll c _

theorem emits_requestProgram (r : Request) (c : Cfg) : Emits c (requestProgram r c) (requestExpand r c) := by
  cases r with
  | sendCommand opcode p =>
    rcases opcode with - | op <;> rcases p with - | bytes
    · exact .nil c
    all_goals exact .emitAll c _
  | setAddressWindow x0 y0 x1 y1 => exact emits_programWindow c _ _ _ _
  | drawPixel x y color => exact emits_programDrawPixel c _ _ color
  | fillRectangle x y w h color => exact emits_programFill c _ _ _ _ color
  | fillScreen color => exact emits_programFill c _ _ _ _ color
  | blitBuffer buffer x y w h => exact (emits_programWindow c _ _ _ _).append (.emitAll c _)
  | initializePanel => exact emits_programInitialize c
  | drawChar code x y color => exact emits_programDrawChar c _ _ _ color
  | drawText string x y color => exact emits_programText c _ color _ _ _
  | _ => exact .emitAll c _

/-- With the payload supplied, the program of every operation emits the operation's expansion. -/
theorem emits_opProgram (op : Op) (c : Cfg) (payload : List Byte) (h : opPayloadNeeded op ≤ payload.length) :
    Emits c (opProgram op c payload) (opExpand op c payload) := by
  cases op with
  | row i => exact emits_program i c payload h
  | call r => exact emits_requestProgram r c

/-! ## A program that runs to its end -/

/-- A micro step that is not stopped: the window it opens is in the panel, and it waits for no payload. -/
def passes (c : Cfg) : Micro → Bool
  | .window x0 y0 x1 y1 => inWindow c x0 y0 x1 y1
  | .glyphPixel x y row col => inWindow c (x + col) (y + row) (x + col) (y + row)
  | .awaitPayload => false
  | .emit _ => true
  | .columnPayload => true
  | .rowPayload => true
  | .remaining _ => true
  | .cursor _ _ => true

theorem openWindow_of_inWindow {x0 y0 x1 y1 : Int} {s : State} (h : inWindow s.cfg x0 y0 x1 y1 = true) :
    openWindow x0 y0 x1 y1 s = .go (writeWindow x0 y0 x1 y1 s) := by
  simp [openWindow, windowViolation, h]

theorem emitPosition_of_ok {a b : U16} {s : State} (hok : AnswersOk s.transport) (hv : s.awValid = true) :
    ∃ s', emitPosition a b s = .go s' := by
  simp [emitPosition, hv, emit_of_ok _ s hok]

theorem perform_of_passes {m : Micro} {ms : List Micro} {s : State} (hok : AnswersOk s.transport)
    (hm : passes s.cfg m = true) (hread : readsWindowFirst (m :: ms) = true → s.awValid = true) :
    ∃ s', perform m s = .go s' := by
  cases m with
  | emit e => exact ⟨_, emit_of_ok e s hok⟩
  | columnPayload => exact emitPosition_of_ok hok (hread rfl)
  | rowPayload => exact emitPosition_of_ok hok (hread rfl)
  | window x0 y0 x1 y1 => exact ⟨_, openWindow_of_inWindow hm⟩
  | glyphPixel x y row col => exact ⟨_, openWindow_of_inWindow (s := pixelReached row col s) hm⟩
  | remaining n => exact ⟨_, rfl⟩
  | cursor chari cur => exact ⟨_, rfl⟩
  | awaitPayload => cases hm

theorem readsWindowFirst_cons {c : Cfg} {m : Micro} {ms : List Micro} (hw : windowOf c m = none)
    (h : readsWindowFirst ms = true) : readsWindowFirst (m :: ms) = true := by
  cases m <;> simp_all [readsWindowFirst, windowOf]

theorem settleWait_emitDone_worked (e : Event) (s : State) (aw : AddressWindow) (valid : Bool) (work : Work) :
    settleWait (emitDone e (takeAnswer e (worked s aw valid work))) =
      worked (settleWait (emitDone e (takeAnswer e s))) aw valid work := by
  cases e <;> rfl

/-- The run of a program that nothing stops: its events are emitted, and else only AW and the work
counters may differ from what the operation began with. -/
theorem runMicros_of_passes (op : Op) {ms : List Micro} {s : State} (hok : AnswersOk s.transport)
    (ht : s.timer = 0) (hpass : ms.all (passes s.cfg) = true)
    (hread : readsWindowFirst ms = true → s.awValid = true) :
    ∃ aw valid work, runMicros op ms s =
      .next (complete op (emitted (programEvents s.cfg s.aw ms) (worked s aw valid work))) := by
  induction ms generalizing s with
  | nil => exact ⟨s.aw, s.awValid, s.work, rfl⟩
  | cons m ms ih =>
    obtain ⟨hm, hms⟩ : passes s.cfg m = true ∧ ms.all (passes s.cfg) = true := by simpa using hpass
    obtain ⟨s', hgo⟩ := perform_of_passes hok hm hread
    rw [runMicros_go op m ms s s' hgo]
    obtain ⟨-, hw, e, he, rfl⟩ | ⟨-, he, work, rfl⟩ := perform_go_cases hgo
    · obtain ⟨aw, valid, work, hrun⟩ := ih (s := settleWait (emitDone e (takeAnswer e s)))
        (by simpa using takeAnswer_ok e s hok) rfl (by simpa using hms)
        (fun h => by simpa using hread (readsWindowFirst_cons hw h))
      refine ⟨aw, valid, work, hrun.trans ?_⟩
      simp [programEvents, he, hw, emitted, settleWait_emitDone_worked]
    · have hread' : readsWindowFirst ms = true → (afterWork m work s).awValid = true := by
        intro h
        cases hw : windowOf s.cfg m with
        | none => simpa [afterWork, worked, hw] using hread (readsWindowFirst_cons hw h)
        | some w => simp [afterWork, worked, hw]
      obtain ⟨aw, valid, work', hrun⟩ := ih (s := afterWork m work s) hok ht hms hread'
      rw [settleWait_of_timer_zero (s := afterWork m work s) ht]
      refine ⟨aw, valid, work', hrun.trans ?_⟩
      simp [programEvents, he, afterWork, worked]

/-! ## What a run of events leaves -/

theorem emitted_ready (es : List Event) (s : State) : (emitted es s).ready = s.ready := by
  induction es generalizing s with
  | nil => rfl
  | cons e es ih => simp [emitted, ih]

theorem emitted_fault (es : List Event) (s : State) : (emitted es s).fault = s.fault := by
  induction es generalizing s with
  | nil => rfl
  | cons e es ih => simp [emitted, ih]

theorem emitted_trace (es : List Event) (s : State) : (emitted es s).trace = s.trace ++ done es := by
  induction es generalizing s with
  | nil => simp [emitted, done]
  | cons e es ih => simp [emitted, ih, done]

theorem pinsOf_emitted (es : List Event) (s : State) : pinsOf (emitted es s) = pinsAfter (pinsOf s) es := by
  induction es generalizing s with
  | nil => rfl
  | cons e es ih => cases e <;> exact ih _

/-! ## The operations that pass their checks are not stopped (R163, R166, R225) -/

theorem passes_emitAll (c : Cfg) (es : List Event) : (emitAll es).all (passes c) = true := by
  simp [emitAll, passes]

theorem passes_windowTransactions (c : Cfg) : windowTransactions.all (passes c) = true := rfl

theorem passes_programWindow {c : Cfg} {x0 y0 x1 y1 : Int} (h : windowViolation c x0 y0 x1 y1 = none) :
    (programWindow x0 y0 x1 y1).all (passes c) = true := by
  have hin : inWindow c x0 y0 x1 y1 = true := by simpa [windowViolation] using h
  simp [programWindow, passes, hin, passes_windowTransactions]

theorem passes_programDrawPixel {c : Cfg} {x y : Int} (color : U16) (h : windowViolation c x y x y = none) :
    (programDrawPixel x y color).all (passes c) = true := by
  simp [programDrawPixel, passes_programWindow h, passes_emitAll]

theorem windowViolation_of_rectangleViolation {c : Cfg} {x y w h : Int} (hv : rectangleViolation c x y w h = none) :
    windowViolation c x y (x + w - 1) (y + h - 1) = none := by
  obtain ⟨-, -, hin⟩ : 1 ≤ w ∧ 1 ≤ h ∧ inWindow c x y (x + w - 1) (y + h - 1) = true := by
    simpa [rectangleViolation] using hv
  simp [windowViolation, hin]

theorem rectangleViolation_of_blitViolation {c : Cfg} {x y w h : Int} {length : Nat}
    (hv : blitViolation c x y w h length = none) : rectangleViolation c x y w h = none := by
  cases hr : rectangleViolation c x y w h with
  | none => rfl
  | some v => simp [blitViolation, hr] at hv

/-- The whole panel is a rectangle that passes its check (R169). -/
theorem rectangleViolation_panel {c : Cfg} (h : cfgLegal c = true) :
    rectangleViolation c 0 0 c.width c.height = none := by
  obtain ⟨hw, hh, -⟩ := (cfgLegal_iff c).mp h
  have hin : inWindow c 0 0 (0 + c.width - 1) (0 + c.height - 1) = true := by
    simp [inWindow]; omega
  have hpos : (1 : Int) ≤ c.width ∧ (1 : Int) ≤ c.height := by omega
  simp only [rectangleViolation, hpos, hin, and_self, if_true]

theorem passes_programRectangleWindow {c : Cfg} {x y w h : Int} (hv : rectangleViolation c x y w h = none) :
    (programRectangleWindow x y w h).all (passes c) = true :=
  passes_programWindow (windowViolation_of_rectangleViolation hv)

theorem passes_programFullBatches (c : Cfg) (chunk : Nat) (color : U16) (q total : Nat) :
    (programFullBatches chunk color q total).all (passes c) = true := by
  induction q generalizing total with
  | zero => rfl
  | succ q ih => simp [programFullBatches, programBatch, passes, ih]

theorem passes_programBatches (c : Cfg) (chunk : Nat) (color : U16) (n : Nat) :
    (programBatches chunk color n).all (passes c) = true := by
  have hpartial : (if 0 < n % chunk then programBatch color (n % chunk) 0 else []).all (passes c) = true := by
    split <;> rfl
  simp [programBatches, passes, passes_programFullBatches, hpartial]

theorem passes_programFill {c : Cfg} {x y w h : Int} (color : U16) (hv : rectangleViolation c x y w h = none) :
    (programFill c x y w h color).all (passes c) = true := by
  simp [programFill, passes_programRectangleWindow hv, passes_programBatches]

theorem passes_programDrawChar {c : Cfg} {code : Nat} {x y : Int} (color : U16)
    (h : pixelsInWindow c x y (charPixels c.font code) = true) :
    (programDrawChar c code x y color).all (passes c) = true := by
  have hpixel : ∀ p ∈ charPixels c.font code, (programGlyphPixel x y color p).all (passes c) = true := by
    intro p hp
    have hin := List.all_eq_true.mp h p hp
    simp [programGlyphPixel, passes, hin, passes_windowTransactions, passes_emitAll]
  simpa [programDrawChar, List.all_flatMap] using hpixel

theorem passes_programText {c : Cfg} {y : Int} (color : U16) (chari : Nat) {cur : Int} {codes : List Nat}
    (h : textInWindow c y cur codes = true) : (programText c y color chari cur codes).all (passes c) = true := by
  induction codes generalizing chari cur with
  | nil => rfl
  | cons code codes ih =>
    obtain ⟨hchar, hrest⟩ : pixelsInWindow c cur y (charPixels c.font code) = true ∧
      textInWindow c y (cur + c.font.charWidth) codes = true := by simpa [textInWindow] using h
    simp [programText, passes, passes_programDrawChar color hchar, ih (chari + 1) hrest]

theorem passes_programSendCommand (c : Cfg) (opcode : Option Byte) {plen : U32} {payload : List Byte}
    (h : plen.toNat ≤ payload.length) : (programSendCommand opcode plen payload).all (passes c) = true := by
  simp [programSendCommand, payloadBytes_of_le h, passes_emitAll]

theorem passes_programBlit {c : Cfg} {x y w h : Int} {plen : U32} {payload : List Byte}
    (hp : plen.toNat ≤ payload.length) (hv : rectangleViolation c x y w h = none) :
    (programBlit x y w h plen payload).all (passes c) = true := by
  simp [programBlit, payloadBytes_of_le hp, passes_programRectangleWindow hv, passes_emitAll]

theorem passes_programDrawText {c : Cfg} {x y : Int} (color : U16) {plen : U32} {payload : List Byte}
    (hp : plen.toNat ≤ payload.length) (h : textInWindow c y x (textCodes c payload plen) = true) :
    (programDrawText c plen x y color payload).all (passes c) = true := by
  simpa only [programDrawText, textCodes, payloadBytes_of_le hp, List.append_nil] using passes_programText color 0 h

theorem passes_programInitialize {c : Cfg} (hc : cfgLegal c = true) :
    (programInitialize c).all (passes c) = true := by
  simp [programInitialize, passes_programFill _ (rectangleViolation_panel hc), passes_emitAll]

theorem passes_program {i : Instr} {c : Cfg} {l : Latches} {payload : List Byte} (hc : cfgLegal c = true)
    (hv : violation i c l = none) (hp : payloadNeeded i ≤ payload.length)
    (hg : textGeometryOk i c payload = true) : (program i c payload).all (passes c) = true := by
  cases i with
  | sendCommandCmd opcode => exact passes_programSendCommand c _ (plen := 0) (Nat.zero_le _)
  | sendCommandCmdData opcode plen => exact passes_programSendCommand c _ hp
  | sendCommandData plen => exact passes_programSendCommand c _ hp
  | sendCommandNone => rfl
  | reserved op => rfl
  | setAddressWindow x0 y0 x1 y1 => exact passes_programWindow hv
  | drawPixel x y color => exact passes_programDrawPixel color hv
  | fillRectangle x y w h color => exact passes_programFill color hv
  | fillScreen color => exact passes_programFill color (rectangleViolation_panel hc)
  | blitBuffer x y w h plen => exact passes_programBlit hp (rectangleViolation_of_blitViolation hv)
  | initializePanel => exact passes_programInitialize hc
  | drawChar code x y color => exact passes_programDrawChar color hg
  | drawText plen x y color => exact passes_programDrawText color hp hg
  | _ => exact passes_emitAll c _

theorem passes_requestProgram {r : Request} {c : Cfg} {l : Latches} {payload : List Byte}
    (hc : cfgLegal c = true) (hv : requestViolation r c l = none)
    (hg : opGeometryOk (.call r) c payload = true) : (requestProgram r c).all (passes c) = true := by
  cases r with
  | sendCommand opcode p =>
    rcases opcode with - | op <;> rcases p with - | bytes
    · rfl
    all_goals exact passes_emitAll c _
  | setAddressWindow x0 y0 x1 y1 => exact passes_programWindow hv
  | drawPixel x y color => exact passes_programDrawPixel color hv
  | fillRectangle x y w h color => exact passes_programFill color hv
  | fillScreen color => exact passes_programFill color (rectangleViolation_panel hc)
  | blitBuffer buffer x y w h =>
    simp [requestProgram, passes_programRectangleWindow (rectangleViolation_of_blitViolation hv), passes_emitAll]
  | initializePanel => exact passes_programInitialize hc
  | drawChar code x y color => exact passes_programDrawChar color hg
  | drawText string x y color => exact passes_programText color 0 hg
  | _ => exact passes_emitAll c _

theorem passes_opProgram {op : Op} {c : Cfg} {l : Latches} {payload : List Byte} (hc : cfgLegal c = true)
    (hv : opViolation op c l = none) (hp : opPayloadNeeded op ≤ payload.length)
    (hg : opGeometryOk op c payload = true) : (opProgram op c payload).all (passes c) = true := by
  cases op with
  | row i => exact passes_program hc hv hp hg
  | call r => exact passes_requestProgram hc hv hg

/-! ## The refinement (R14) -/

/-- An operation that passes its checks, with its payload supplied, its lit pixels in the panel and
every TX answered ok: its expansion is emitted and the operation is complete. -/
theorem execOp_emits_expansion {op : Op} {s : State} (hrun : CanRun s)
    (hv : opViolation op s.cfg s.latches = none) (hp : opPayloadNeeded op ≤ s.payload.length)
    (hg : opGeometryOk op s.cfg s.payload = true) :
    ∃ aw valid work, execOp op s =
      .next (complete op (emitted (opExpand op s.cfg s.payload) (worked (begin op s) aw valid work))) := by
  obtain ⟨hcan, hgrain, hok⟩ := hrun
  have hemits := emits_opProgram op s.cfg s.payload hp
  obtain ⟨aw, valid, work, h⟩ := runMicros_of_passes op (s := begin op s) hok rfl
    (passes_opProgram hcan.2 hv hp hg) (by simp [hemits.writesFirst])
  rw [begin_cfg, hemits.events] at h
  exact ⟨aw, valid, work, (execOp_runs hcan hgrain hv).trans h⟩

theorem readyAtCompletion_readyAtAcceptance (op : Op) (ready : Bool) :
    readyAtCompletion op (readyAtAcceptance op ready) = if isInitialize op then true else ready := by
  cases h : isInitialize op <;> simp [readyAtCompletion, readyAtAcceptance, h]

/-- Settles O43, from the state the operation leaves: `complete` after the events of the expansion. -/
theorem everyOperationEmitsItsExpansion : Obligations.EveryOperationEmitsItsExpansion := by
  intro op s hrun hv hp hg
  obtain ⟨aw, valid, work, h⟩ := execOp_emits_expansion hrun hv hp hg
  refine ⟨_, h, rfl, rfl, ?_, ?_, ?_, ?_⟩
  · exact emitted_fault _ _
  · exact emitted_trace _ _
  · exact pinsOf_emitted _ _
  · rw [complete_ready, emitted_ready]
    exact readyAtCompletion_readyAtAcceptance op s.ready

end Sys2Proof.Machine
end

section
/-! SUPPORT. What a micro step that stops leads to, and that nothing the block does while an operation
runs takes a request from the port (20_memory.md R66). -/

namespace Sys2Proof.Machine

/-! ## A micro step that stops -/

theorem emit_halt {e : Event} {s s' : State} (h : emit e s = .halt s') :
    ∃ bs sent rest, e = .tx bs ∧ s.transport = .fail sent :: rest ∧
      s' = failTx bs sent { s with transport := rest } := by
  obtain ⟨hgo, -⟩ | ⟨bs, sent, rest, he, ht, hhalt⟩ := emit_cases e s
  · simp [hgo] at h
  · exact ⟨bs, sent, rest, he, ht, by simpa [hhalt] using h.symm⟩

theorem emitPosition_halt {a b : U16} {s s' : State} (h : emitPosition a b s = .halt s') :
    ∃ bs sent rest, s.transport = .fail sent :: rest ∧ s' = failTx bs sent { s with transport := rest } := by
  obtain ⟨-, hemit⟩ | ⟨-, hbroken⟩ := emitPosition_cases a b s
  · obtain ⟨bs, sent, rest, -, hfail⟩ := emit_halt (hemit ▸ h)
    exact ⟨bs, sent, rest, hfail⟩
  · simp [hbroken] at h

theorem openWindow_halt {x0 y0 x1 y1 : Int} {s s' : State} (h : openWindow x0 y0 x1 y1 s = .halt s') :
    s' = raise ⟨.invalidGeometry, geometryInfo x0 y0⟩ s := by
  obtain ⟨-, hgo⟩ | ⟨-, hhalt⟩ := openWindow_cases x0 y0 x1 y1 s
  · simp [hgo] at h
  · simpa [hhalt] using h.symm

/-- A micro step that stops is a TX the transport fails, a window outside the panel, with the work
counters written before the check, or the wait for payload (R66, R163, R223). -/
theorem perform_halt_cases {m : Micro} {s s' : State} (h : perform m s = .halt s') :
    (∃ bs sent rest, s.transport = .fail sent :: rest ∧ s' = failTx bs sent { s with transport := rest }) ∨
    (∃ x y work, s' = raise ⟨.invalidGeometry, geometryInfo x y⟩ (worked s s.aw s.awValid work)) ∨
    (m = .awaitPayload ∧ s' = s) := by
  cases m with
  | emit e =>
    obtain ⟨bs, sent, rest, -, hfail⟩ := emit_halt h
    exact .inl ⟨bs, sent, rest, hfail⟩
  | columnPayload => exact .inl (emitPosition_halt h)
  | rowPayload => exact .inl (emitPosition_halt h)
  | window x0 y0 x1 y1 => exact .inr (.inl ⟨_, _, s.work, openWindow_halt h⟩)
  | glyphPixel x y row col => exact .inr (.inl ⟨_, _, _, openWindow_halt (s := pixelReached row col s) h⟩)
  | remaining n => cases h
  | cursor chari cur => cases h
  | awaitPayload => exact .inr (.inr ⟨rfl, (Progress.halt.inj h).symm⟩)

/-! ## The request port while an operation runs (R66, R258) -/

@[simp] theorem takeAnswer_inbox (e : Event) (s : State) : (takeAnswer e s).inbox = s.inbox := by cases e <;> rfl

theorem inbox_of_perform_go {m : Micro} {s s' : State} (h : perform m s = .go s') : s'.inbox = s.inbox := by
  obtain ⟨-, -, e, -, rfl⟩ | ⟨-, -, work, rfl⟩ := perform_go_cases h
  · simp
  · rfl

theorem inbox_of_perform_halt {m : Micro} {s s' : State} (h : perform m s = .halt s') : s'.inbox = s.inbox := by
  obtain ⟨bs, sent, rest, -, rfl⟩ | ⟨x, y, work, rfl⟩ | ⟨-, rfl⟩ := perform_halt_cases h <;> rfl

theorem inbox_of_runMicros {op : Op} {ms : List Micro} {s t : State} (h : runMicros op ms s = .next t) :
    t.inbox = s.inbox := by
  induction ms generalizing s with
  | nil => cases h; rfl
  | cons m ms ih =>
    cases hm : perform m s with
    | go s' =>
      rw [runMicros_go op m ms s s' hm] at h
      simpa [inbox_of_perform_go hm] using ih h
    | halt s' =>
      cases (runMicros_halt op m ms s s' hm).symm.trans h
      exact inbox_of_perform_halt hm
    | broken f => cases (runMicros_broken op m ms s f hm).symm.trans h

theorem runOneEvent_halt (op : Op) (m : Micro) (ms : List Micro) (s s' : State) (h : perform m s = .halt s') :
    runOneEvent op (m :: ms) s = .next s' := by simp [runOneEvent, h]

theorem runOneEvent_broken (op : Op) (m : Micro) (ms : List Micro) (s : State) (f : Fault)
    (h : perform m s = .broken f) : runOneEvent op (m :: ms) s = .fault f := by simp [runOneEvent, h]

theorem inbox_of_runOneEvent {op : Op} {ms : List Micro} {s t : State} (h : runOneEvent op ms s = .next t) :
    t.inbox = s.inbox := by
  induction ms generalizing s with
  | nil => cases h; rfl
  | cons m ms ih =>
    cases hm : perform m s with
    | go s' =>
      cases he : isEvent m with
      | true =>
        cases (runOneEvent_go_event op m ms s s' hm he).symm.trans h
        exact inbox_of_perform_go hm
      | false => exact (ih (runOneEvent_go_work op m ms s s' hm he ▸ h)).trans (inbox_of_perform_go hm)
    | halt s' =>
      cases (runOneEvent_halt op m ms s s' hm).symm.trans h
      exact inbox_of_perform_halt hm
    | broken f => cases (runOneEvent_broken op m ms s f hm).symm.trans h

theorem inbox_of_resume {op : Op} {k : Nat} {s t : State} (h : resume op k s = .next t) : t.inbox = s.inbox := by
  cases hg : s.grain with
  | operation => exact inbox_of_runMicros (s := settleWait s) (by simpa [resume, hg] using h)
  | event =>
    by_cases ht : s.timer = 0
    · exact inbox_of_runOneEvent (by simpa [resume, hg, ht] using h)
    · obtain rfl : tick s = t := by simpa [resume, hg, ht] using h
      rfl

theorem accept_of_not_idle (op : Op) (check : Option Violation) (ms : List Micro) (s : State)
    (hs : s.seq ≠ .idle) : accept op check ms s = .next s := by
  obtain ⟨-, h⟩ | ⟨hidle, -⟩ | ⟨hcan, -⟩ | ⟨hcan, -⟩ := accept_cases op check ms s
  · exact h
  · exact absurd hidle hs
  · exact absurd hcan.1 hs
  · exact absurd hcan.1 hs

/-- Settles O5: the acceptance takes nothing outside IDLE, and a step there resumes, resets or does
nothing, none of which touches the port. -/
theorem noRequestIsAcceptedOutsideIdle : Obligations.NoRequestIsAcceptedOutsideIdle := by
  refine ⟨fun op s hs => by rw [execOp_eq_accept, accept_of_not_idle _ _ _ _ hs], fun s t hs h => ?_⟩
  cases hr : s.resetIn with
  | true =>
    obtain rfl : blockReset s = t := by simpa [step, stepBlock, hr] using h
    rfl
  | false =>
    cases hq : s.seq with
    | idle => exact absurd hq hs
    | run op k => exact inbox_of_resume (op := op) (k := k) (by simpa [step, stepBlock, hr, hq] using h)
    | faulted =>
      obtain rfl : s = t := by simpa [step, stepBlock, hr, hq] using h
      rfl

end Sys2Proof.Machine
end

section
/-! SUPPORT. Two facts about operands: a coordinate in the panel keeps all its bits when the offset is
added (20_memory.md R60), and the lit pixels of a character are the set bits of its glyph (R54). -/

namespace Sys2Proof.Machine

/-! ## Physical coordinates (R60, R162) -/

theorem toNat_physical {x offset : Nat} (h : x + offset < 65536) : (physical x offset).toNat = x + offset := by
  simp only [physical, BitVec.toNat_ofInt]
  omega

/-- Settles O22: R7 keeps the sum of a coordinate in the panel and its offset below 2 ^ 16. -/
theorem physicalCoordinatesDoNotWrap : Obligations.PhysicalCoordinatesDoNotWrap := by
  intro c x y hc hx hy
  obtain ⟨-, -, hwidth, hheight, -⟩ := (cfgLegal_iff c).mp hc
  exact ⟨toNat_physical (by omega), toNat_physical (by omega)⟩

/-! ## Lit pixels (R54, R201) -/

theorem mem_litColumns {b : Byte} {col : Nat} : col ∈ litColumns b ↔ col < 8 ∧ b.getLsbD (7 - col) = true := by
  simp [litColumns]

theorem litColumns_pairwise (b : Byte) : (litColumns b).Pairwise (· < ·) :=
  List.pairwise_lt_range.filter _

/-- The first argument of `litPixels` is the number of the first row byte. -/
theorem mem_litPixels {first row col : Nat} {bs : List Byte} :
    (row, col) ∈ litPixels first bs ↔ ∃ i b, row = first + i ∧ bs[i]? = some b ∧ col ∈ litColumns b := by
  induction bs generalizing first with
  | nil => simp [litPixels]
  | cons b bs ih =>
    rw [litPixels, List.mem_append, ih]
    constructor
    · rintro (hfirst | ⟨i, b', rfl, hb', hcol⟩)
      · obtain ⟨hcol, rfl⟩ : col ∈ litColumns b ∧ first = row := by simpa using hfirst
        exact ⟨0, b, rfl, rfl, hcol⟩
      · exact ⟨i + 1, b', by omega, by simpa using hb', hcol⟩
    · rintro ⟨i, b', rfl, hb', hcol⟩
      cases i with
      | zero =>
        obtain rfl : b = b' := by simpa using hb'
        exact .inl (by simpa using hcol)
      | succ i => exact .inr ⟨i, b', by omega, by simpa using hb', hcol⟩

theorem litPixels_pairwise (first : Nat) (bs : List Byte) :
    (litPixels first bs).Pairwise (fun p q => p.1 < q.1 ∨ (p.1 = q.1 ∧ p.2 < q.2)) := by
  induction bs generalizing first with
  | nil => exact .nil
  | cons b bs ih =>
    refine List.pairwise_append.mpr ⟨?_, ih (first + 1), ?_⟩
    · exact List.pairwise_map.mpr ((litColumns_pairwise b).imp fun h => .inr ⟨rfl, h⟩)
    · rintro p hp ⟨row, col⟩ hq
      obtain ⟨_, -, rfl⟩ := List.mem_map.mp hp
      obtain ⟨i, _, rfl, -, -⟩ := mem_litPixels.mp hq
      exact .inl (by show first < first + 1 + i; omega)

theorem charPixels_of_outside {f : Font} {code : Nat}
    (h : code < f.startCode ∨ f.startCode + f.glyphs.length ≤ code) : charPixels f code = [] := by
  have hrows : glyphRows f code = none := by
    simp only [glyphRows]
    split
    · rfl
    · simp only [Option.map_eq_none_iff, List.getElem?_eq_none_iff]
      omega
  simp [charPixels, hrows]

theorem charPixels_of_glyph {f : Font} {code : Nat} {rows : Vector Byte f.glyphHeight}
    (hcode : f.startCode ≤ code) (h : f.glyphs[code - f.startCode]? = some rows) :
    charPixels f code = litPixels 0 rows.toList := by
  simp [charPixels, glyphRows, Nat.not_lt.mpr hcode, h]

/-- Settles O35: membership and order are those of `litPixels`, on the row bytes of the glyph. -/
theorem litPixelsAreTheSetBits : Obligations.LitPixelsAreTheSetBits := by
  intro f code
  refine ⟨charPixels_of_outside, fun rows hcode hrows row col => ?_, ?_⟩
  · simp [charPixels_of_glyph hcode hrows, mem_litPixels, mem_litColumns]
  · unfold charPixels
    split
    · exact litPixels_pairwise 0 _
    · exact .nil

end Sys2Proof.Machine
end

section
/-! SUPPORT. An operation whose payload is short (20_memory.md R66): its program is the events before
the TX that needs the bytes, then the wait; once the bytes have come it is the same events, then the
rest. From this, what state waits, that a step leaves it, and what the step after a delivery does. -/

namespace Sys2Proof.Machine

/-! ## A part of a program -/

theorem eventOf_length (w : AddressWindow) (m : Micro) :
    (eventOf w m).toList.length = if isEvent m then 1 else 0 := by
  cases m <;> rfl

theorem programEvents_length (c : Cfg) (w : AddressWindow) (ms : List Micro) :
    (programEvents c w ms).length = eventCount ms := by
  induction ms generalizing w with
  | nil => rfl
  | cons m ms ih =>
    simp only [programEvents, List.length_append, eventOf_length, ih, eventCount, List.countP_cons]
    omega

theorem Emits.eventCount_eq {c : Cfg} {ms : List Micro} {es : List Event} (h : Emits c ms es) :
    eventCount ms = es.length := by
  rw [← h.events ⟨0, 0, 0, 0⟩, programEvents_length]

theorem afterEvents_eventCount_append (ms ns : List Micro) :
    afterEvents (eventCount ms) (ms ++ ns) = afterEvents (eventCount ms) ms ++ ns := by
  induction ms with
  | nil => exact afterEvents_zero ns
  | cons m ms ih =>
    cases hm : isEvent m with
    | true => simpa [eventCount, List.countP_cons, hm, afterEvents] using ih
    | false =>
      have hcount : eventCount (m :: ms) = eventCount ms := by simp [eventCount, hm]
      rw [hcount]
      cases hn : eventCount ms with
      | zero => rfl
      | succ n => simpa [afterEvents, hm, hn] using ih

theorem afterEvents_eventCount_add_append (ms ns : List Micro) (k : Nat) :
    afterEvents (eventCount ms + (k + 1)) (ms ++ ns) = afterEvents (k + 1) ns := by
  induction ms with
  | nil => simp [eventCount]
  | cons m ms ih =>
    cases hm : isEvent m with
    | true =>
      have hcount : eventCount (m :: ms) = eventCount ms + 1 := by simp [eventCount, hm]
      rw [hcount, show eventCount ms + 1 + (k + 1) = (eventCount ms + (k + 1)) + 1 by omega]
      simpa [afterEvents, hm] using ih
    | false =>
      have hcount : eventCount (m :: ms) = eventCount ms := by simp [eventCount, hm]
      rw [hcount]
      simpa [← Nat.add_assoc, afterEvents, hm] using ih

theorem readsWindowFirst_of_append {ms ns : List Micro} (h : readsWindowFirst (ms ++ ns) = false) :
    readsWindowFirst ms = false := by
  induction ms with
  | nil => rfl
  | cons m ms ih => cases m <;> simp_all [readsWindowFirst]

/-! ## The run up to the wait -/

/-- The run of a program that begins with a part that nothing stops: the events of that part are
emitted, then the rest runs, whatever it is; with nothing left it is `runMicros_of_passes`. -/
theorem runMicros_append_of_passes (op : Op) {ms : List Micro} {s : State} (hok : AnswersOk s.transport)
    (ht : s.timer = 0) (hpass : ms.all (passes s.cfg) = true)
    (hread : readsWindowFirst ms = true → s.awValid = true) :
    ∃ aw valid work, ∀ ns, runMicros op (ms ++ ns) s =
      runMicros op ns (emitted (programEvents s.cfg s.aw ms) (worked s aw valid work)) := by
  induction ms generalizing s with
  | nil => exact ⟨s.aw, s.awValid, s.work, fun _ => rfl⟩
  | cons m ms ih =>
    obtain ⟨hm, hms⟩ : passes s.cfg m = true ∧ ms.all (passes s.cfg) = true := by simpa using hpass
    obtain ⟨s', hgo⟩ := perform_of_passes hok hm hread
    have hstep : ∀ ns, runMicros op (m :: ms ++ ns) s = runMicros op (ms ++ ns) (settleWait s') :=
      fun ns => runMicros_go op m (ms ++ ns) s s' hgo
    obtain ⟨-, hw, e, he, rfl⟩ | ⟨-, he, work, rfl⟩ := perform_go_cases hgo
    · obtain ⟨aw, valid, work, hrest⟩ := ih (s := settleWait (emitDone e (takeAnswer e s)))
        (by simpa using takeAnswer_ok e s hok) rfl (by simpa using hms)
        (fun h => by simpa using hread (readsWindowFirst_cons hw h))
      refine ⟨aw, valid, work, fun ns => (hstep ns).trans ((hrest ns).trans ?_)⟩
      simp [programEvents, he, hw, emitted, settleWait_emitDone_worked]
    · have hread' : readsWindowFirst ms = true → (afterWork m work s).awValid = true := by
        intro h
        cases hw : windowOf s.cfg m with
        | none => simpa [afterWork, worked, hw] using hread (readsWindowFirst_cons hw h)
        | some w => simp [afterWork, worked, hw]
      rw [settleWait_of_timer_zero (s := afterWork m work s) ht] at hstep
      obtain ⟨aw, valid, work', hrest⟩ := ih (s := afterWork m work s) hok ht hms hread'
      refine ⟨aw, valid, work', fun ns => (hstep ns).trans ((hrest ns).trans ?_)⟩
      simp [programEvents, he, afterWork, worked]

@[simp] theorem takeAnswer_busy (e : Event) (s : State) : (takeAnswer e s).busy = s.busy := by cases e <;> rfl

theorem emitted_cfg (es : List Event) (s : State) : (emitted es s).cfg = s.cfg := by
  induction es generalizing s with
  | nil => rfl
  | cons e es ih => simp [emitted, ih]

theorem emitted_payload (es : List Event) (s : State) : (emitted es s).payload = s.payload := by
  induction es generalizing s with
  | nil => rfl
  | cons e es ih => simp [emitted, ih]

theorem emitted_busy (es : List Event) (s : State) : (emitted es s).busy = s.busy := by
  induction es generalizing s with
  | nil => rfl
  | cons e es ih => simp [emitted, ih]

theorem emitted_grain (es : List Event) (s : State) : (emitted es s).grain = s.grain := by
  induction es generalizing s with
  | nil => rfl
  | cons e es ih => simp [emitted, ih]

theorem emitted_resetIn (es : List Event) (s : State) : (emitted es s).resetIn = s.resetIn := by
  induction es generalizing s with
  | nil => rfl
  | cons e es ih => simp [emitted, ih]

theorem emitted_timer {es : List Event} {s : State} (h : s.timer = 0) : (emitted es s).timer = 0 := by
  induction es generalizing s with
  | nil => exact h
  | cons e es ih => exact ih rfl

theorem emitted_seq {es : List Event} {s : State} {op : Op} {k : Nat} (h : s.seq = .run op k) :
    (emitted es s).seq = .run op (k + es.length) := by
  induction es generalizing s k with
  | nil => exact h
  | cons e es ih =>
    rw [emitted, ih (s := settleWait (emitDone e (takeAnswer e s))) (k := k + 1) (by simp [h, advanceSeq])]
    simp only [List.length_cons, Seq.run.injEq, true_and]
    omega

/-! ## Waiting is stable

The steps after the last event emitted run again when a waiting operation is gone on with. They are
cursor moves only, each of which overwrites the one before. -/

/-- Whatever the program does after its last event is to move the cursor. -/
def TrailsCursors (ms : List Micro) : Prop :=
  ∀ m ∈ afterEvents (eventCount ms) ms, ∃ chari cur, m = .cursor chari cur

theorem TrailsCursors.of_event_last {ms : List Micro} (h : afterEvents (eventCount ms) ms = []) :
    TrailsCursors ms := by
  simp [TrailsCursors, h]

theorem TrailsCursors.append {ms ns : List Micro} (h : TrailsCursors ms) (h' : TrailsCursors ns) :
    TrailsCursors (ms ++ ns) := by
  have hcount : eventCount (ms ++ ns) = eventCount ms + eventCount ns := List.countP_append
  unfold TrailsCursors at h' ⊢
  rw [hcount]
  cases hn : eventCount ns with
  | zero =>
    rw [hn, afterEvents_zero] at h'
    rw [Nat.add_zero, afterEvents_eventCount_append]
    exact fun m hm => (List.mem_append.mp hm).elim (h m) (h' m)
  | succ k =>
    rw [hn] at h'
    rwa [afterEvents_eventCount_add_append]

theorem TrailsCursors.cursor (chari : Nat) (cur : Int) : TrailsCursors [.cursor chari cur] :=
  fun _ hm => ⟨chari, cur, List.mem_singleton.mp hm⟩

theorem TrailsCursors.flatMap {α : Type} {f : α → List Micro} (h : ∀ a, TrailsCursors (f a)) (l : List α) :
    TrailsCursors (l.flatMap f) := by
  induction l with
  | nil => exact .of_event_last rfl
  | cons a l ih => exact (h a).append ih

theorem trailsCursors_emitAll (es : List Event) : TrailsCursors (emitAll es) := by
  rw [emitAll, List.map_eq_flatMap]
  exact .flatMap (fun _ => .of_event_last rfl) es

theorem trailsCursors_programText (c : Cfg) (y : Int) (color : U16) (chari : Nat) (cur : Int)
    (codes : List Nat) : TrailsCursors (programText c y color chari cur codes) := by
  induction codes generalizing chari cur with
  | nil => exact .cursor chari cur
  | cons code codes ih =>
    have hchar : TrailsCursors (programDrawChar c code cur y color) :=
      .flatMap (fun _ => .of_event_last rfl) _
    exact ((TrailsCursors.cursor chari cur).append hchar).append (ih (chari + 1) _)

/-- The state with the cursor moved (R29, R203). -/
def withCursor (chari : Nat) (cur : Int) (s : State) : State :=
  worked s s.aw s.awValid { s.work with chari := chari, cur := cur }

theorem runMicros_awaitPayload (op : Op) (s : State) : runMicros op [.awaitPayload] s = .next s := rfl

theorem runMicros_cursor (op : Op) (chari : Nat) (cur : Int) (ms : List Micro) {s : State} (ht : s.timer = 0) :
    runMicros op (.cursor chari cur :: ms) s = runMicros op ms (withCursor chari cur s) := by
  rw [runMicros_go op _ ms s (withCursor chari cur s) rfl, settleWait_of_timer_zero (s := withCursor chari cur s) ht]

theorem runMicros_cursors {q : List Micro} (hq : ∀ m ∈ q, ∃ chari cur, m = .cursor chari cur) (op : Op)
    {s : State} (ht : s.timer = 0) :
    ∃ chari cur, runMicros op (q ++ [.awaitPayload]) s = .next (withCursor chari cur s) := by
  induction q generalizing s with
  | nil => exact ⟨s.work.chari, s.work.cur, rfl⟩
  | cons m q ih =>
    obtain ⟨chari, cur, rfl⟩ := hq m (by simp)
    obtain ⟨chari', cur', h⟩ := ih (fun m hm => hq m (by simp [hm])) (s := withCursor chari cur s) ht
    exact ⟨chari', cur', (runMicros_cursor op chari cur _ ht).trans h⟩

/-- Cursor moves up to the wait, run once more from where they led, lead to the same state. -/
theorem runMicros_cursors_again {q : List Micro} (hq : ∀ m ∈ q, ∃ chari cur, m = .cursor chari cur) {op : Op}
    {s t : State} (ht : s.timer = 0) (h : runMicros op (q ++ [.awaitPayload]) s = .next t) :
    runMicros op (q ++ [.awaitPayload]) t = .next t := by
  obtain ⟨chari, cur, hrun⟩ := runMicros_cursors hq op ht
  obtain rfl : withCursor chari cur s = t := by simpa [hrun] using h
  cases q with
  | nil => rfl
  | cons m q =>
    obtain ⟨chari', cur', rfl⟩ := hq m (by simp)
    rw [← hrun]
    exact (runMicros_cursor op chari' cur' _ (s := withCursor chari cur s) ht).trans
      (runMicros_cursor op chari' cur' _ ht).symm

theorem step_of_running {op : Op} {k : Nat} {s : State} (hs : s.seq = .run op k) (hg : s.grain = .operation)
    (hr : s.resetIn = false) :
    step s = runMicros op (afterEvents k (opProgram op s.cfg s.payload)) (settleWait s) := by
  simp [step, stepBlock, resume, hs, hg, hr]

/-! ## The operations that read payload (R68, R104) -/

/-- Where an operation short of payload stops (R66, G9): `before` is what it runs until the wait, `es`
the events of that, and once the bytes have come its program goes on from there. -/
structure PausesAfter (i : Instr) (c : Cfg) (payload : List Byte) (before : List Micro) (es : List Event) :
    Prop where
  program_eq : program i c payload = before ++ [.awaitPayload]
  emits : Emits c before es
  trails : TrailsCursors before
  length_eq : es.length = eventsBeforePayload i c payload
  expand_eq : ∃ rest, expand i c payload = es ++ rest
  passes : ∀ l, violation i c l = none → textGeometryOk i c payload = true → before.all (passes c) = true
  resumes : ∀ bs, payloadNeeded i ≤ (payload ++ bs).length →
    ∃ after fs, program i c (payload ++ bs) = before ++ after ∧ Emits c after fs

theorem payloadBytes_of_lt {payload : List Byte} {n : Nat} (h : payload.length < n) :
    payloadBytes payload n = none := if_neg (Nat.not_le.mpr h)

/-- A transaction up to the TX of its payload: chip-select, the command phase, the raised line (R120). -/
def commandPhase (opcode : Option Byte) : List Event :=
  (txn opcode none).dropLast ++ [.dc true]

theorem starvedTransaction_eq (opcode : Option Byte) :
    starvedTransaction opcode = emitAll (commandPhase opcode) ++ [.awaitPayload] := by
  cases opcode <;> rfl

theorem txn_payload (opcode : Option Byte) (bs : List Byte) :
    txn opcode (some bs) = commandPhase opcode ++ [.tx bs, .cs false] := by
  cases opcode <;> rfl

theorem emitAll_append (es fs : List Event) : emitAll (es ++ fs) = emitAll es ++ emitAll fs := List.map_append

theorem expandSendCommand_of_lt (opcode : Option Byte) {plen : U32} {n : Nat} (h : n < plen.toNat)
    (payload : List Byte) :
    expandSendCommand opcode plen payload = commandPhase opcode ++ [.tx (payload.take plen.toNat), .cs false] := by
  have hne : plen ≠ 0#32 := by rintro rfl; simp at h
  rw [← txn_payload, expandSendCommand, payloadArgument, if_neg hne]

/-- The two forms of sendCommand that have a payload (R122, R123). -/
theorem pausesAfter_sendCommand {i : Instr} {c : Cfg} {payload : List Byte} (opcode : Option Byte) {plen : U32}
    (hprogram : ∀ bs, program i c bs = programSendCommand opcode plen bs)
    (hexpand : expand i c payload = expandSendCommand opcode plen payload)
    (hneeded : payloadNeeded i = plen.toNat)
    (hlength : (commandPhase opcode).length = eventsBeforePayload i c payload)
    (h : payload.length < plen.toNat) :
    PausesAfter i c payload (emitAll (commandPhase opcode)) (commandPhase opcode) where
  program_eq := by rw [hprogram, programSendCommand, payloadBytes_of_lt h]; exact starvedTransaction_eq opcode
  emits := .emitAll c _
  trails := trailsCursors_emitAll _
  length_eq := hlength
  expand_eq := ⟨_, hexpand.trans (expandSendCommand_of_lt opcode h payload)⟩
  passes := fun _ _ _ => passes_emitAll c _
  resumes := fun bs hbs => by
    refine ⟨_, _, ?_, .emitAll c [.tx ((payload ++ bs).take plen.toNat), .cs false]⟩
    rw [hprogram, ← emitAll_append, ← expandSendCommand_of_lt opcode h, programSendCommand,
      payloadBytes_of_le (hneeded ▸ hbs)]

theorem pausesAfter_blitBuffer {x y w h : U16} {plen : U32} {c : Cfg} {payload : List Byte}
    (hshort : payload.length < plen.toNat) :
    PausesAfter (.blitBuffer x y w h plen) c payload
      (programRectangleWindow x.toNat y.toNat w.toNat h.toNat ++ emitAll (commandPhase none))
      (expandRectangleWindow c x.toNat y.toNat w.toNat h.toNat ++ commandPhase none) where
  program_eq := by
    simp only [program, programBlit, payloadBytes_of_lt hshort, starvedTransaction_eq, List.append_assoc]
  emits := (emits_programWindow c _ _ _ _).append (.emitAll c _)
  trails := .of_event_last rfl
  length_eq := rfl
  expand_eq := ⟨[.tx (payload.take plen.toNat), .cs false], by
    simp only [expand, expandBlit, txn_payload, List.append_assoc]⟩
  passes := fun _ hv _ => by
    simp [passes_programRectangleWindow (rectangleViolation_of_blitViolation hv), passes_emitAll]
  resumes := fun bs hbs => by
    refine ⟨_, _, ?_, .emitAll c [.tx ((payload ++ bs).take plen.toNat), .cs false]⟩
    have hfull : payloadBytes (payload ++ bs) plen.toNat = some ((payload ++ bs).take plen.toNat) :=
      payloadBytes_of_le hbs
    simp only [program, programBlit, hfull, txn_payload, emitAll_append, List.append_assoc]

/-- A longer string is drawn by the same program, going on after its cursor move at the end (R203). -/
theorem programText_append (c : Cfg) (y : Int) (color : U16) (chari : Nat) (cur : Int) (codes more : List Nat) :
    ∃ after fs, programText c y color chari cur (codes ++ more) = programText c y color chari cur codes ++ after ∧
      Emits c after fs := by
  induction codes generalizing chari cur with
  | nil =>
    cases more with
    | nil => exact ⟨[], [], rfl, .nil c⟩
    | cons code more =>
      exact ⟨_, _, rfl, (emits_programDrawChar c code cur y color).append
        (emits_programText c y color (chari + 1) _ more)⟩
  | cons code codes ih =>
    obtain ⟨after, fs, happend, hemits⟩ := ih (chari + 1) (cur + c.font.charWidth)
    exact ⟨after, fs, by simp [programText, happend], hemits⟩

theorem traceChar_length (c : Cfg) (code x y : Nat) (x' y' : Int) (color : U16) :
    (traceChar c code x y color).length = (expandDrawChar c code x' y' color).length := by
  have hpixel : ∀ p : Nat × Nat, (tracePixel c (x + p.2) (y + p.1) color).length =
    (expandDrawPixel c (x' + p.2) (y' + p.1) color).length := fun _ => rfl
  simp only [traceChar, expandDrawChar, List.length_flatMap, hpixel]

theorem traceText_length (c : Cfg) (y cur : Nat) (y' cur' : Int) (color : U16) (codes : List Nat) :
    (traceText c y color cur codes).length = (expandDrawText c y' color cur' codes).length := by
  induction codes generalizing cur cur' with
  | nil => rfl
  | cons code codes ih =>
    simp only [traceText, expandDrawText, List.length_append, traceChar_length c code cur y cur' y',
      ih _ (cur' + c.font.charWidth)]

theorem textCodes_append (c : Cfg) (payload bs : List Byte) (plen : U32) :
    textCodes c (payload ++ bs) plen =
      textCodes c payload plen ++ (bs.take (plen.toNat - payload.length)).map (charCode c) := by
  simp [textCodes, List.take_append]

theorem pausesAfter_drawText {plen : U32} {x y color : U16} {c : Cfg} {payload : List Byte}
    (hshort : payload.length < plen.toNat) :
    PausesAfter (.drawText plen x y color) c payload
      (programText c y.toNat color 0 x.toNat (textCodes c payload plen))
      (expandDrawText c y.toNat color x.toNat (textCodes c payload plen)) where
  program_eq := by simp only [program, programDrawText, payloadBytes_of_lt hshort, textCodes]
  emits := emits_programText c _ color 0 _ _
  trails := trailsCursors_programText c _ color 0 _ _
  length_eq := (traceText_length c _ _ _ _ color _).symm
  expand_eq := ⟨[], (List.append_nil _).symm⟩
  passes := fun _ _ hg => passes_programText color 0 hg
  resumes := fun bs hbs => by
    obtain ⟨after, fs, happend, hemits⟩ := programText_append c y.toNat color 0 x.toNat (textCodes c payload plen)
      ((bs.take (plen.toNat - payload.length)).map (charCode c))
    have hfull : payloadBytes (payload ++ bs) plen.toNat = some ((payload ++ bs).take plen.toNat) :=
      payloadBytes_of_le hbs
    refine ⟨after, fs, ?_, hemits⟩
    rw [← happend, ← textCodes_append]
    simp only [program, programDrawText, hfull, textCodes, List.append_nil]

theorem exists_pausesAfter {i : Instr} (c : Cfg) {payload : List Byte} (h : payload.length < payloadNeeded i) :
    ∃ before es, PausesAfter i c payload before es := by
  cases i with
  | sendCommandCmdData opcode plen =>
    exact ⟨_, _, pausesAfter_sendCommand (some opcode) (fun _ => rfl) rfl rfl rfl h⟩
  | sendCommandData plen => exact ⟨_, _, pausesAfter_sendCommand none (fun _ => rfl) rfl rfl rfl h⟩
  | blitBuffer x y w h' plen => exact ⟨_, _, pausesAfter_blitBuffer h⟩
  | drawText plen x y color => exact ⟨_, _, pausesAfter_drawText h⟩
  | _ => exact absurd h (Nat.not_lt_zero _)

/-! ## The waiting state -/

section Pausing

variable {i : Instr} {s : State} {before : List Micro} {es : List Event}

/-- `t` is the state operation `i`, begun in `s`, waits in with the events `es` emitted. -/
structure WaitsAfter (i : Instr) (s : State) (es : List Event) (t : State) : Prop where
  seq : t.seq = .run (.row i) es.length
  busy : t.busy = true
  fault : t.fault = s.fault
  trace : t.trace = s.trace ++ done es
  pins : pinsOf t = pinsAfter (pinsOf s) es
  timer : t.timer = 0
  cfg : t.cfg = s.cfg
  payload : t.payload = s.payload
  grain : t.grain = .operation
  resetIn : t.resetIn = s.resetIn
  answers : AnswersOk t.transport

theorem waitsAfter_emitted (hrun : CanRun s) (aw : AddressWindow) (valid : Bool) (work : Work) :
    WaitsAfter i s es (emitted es (worked (begin (.row i) s) aw valid work)) where
  seq := by simpa using emitted_seq (s := worked (begin (.row i) s) aw valid work) (k := 0) rfl
  busy := emitted_busy _ _
  fault := emitted_fault _ _
  trace := emitted_trace _ _
  pins := pinsOf_emitted _ _
  timer := emitted_timer rfl
  cfg := emitted_cfg _ _
  payload := emitted_payload _ _
  grain := (emitted_grain _ _).trans hrun.2.1
  resetIn := emitted_resetIn _ _
  answers := emitted_ok _ _ hrun.2.2

theorem exec_runs (hrun : CanRun s) (hv : violation i s.cfg s.latches = none) :
    exec i s = runMicros (.row i) (program i s.cfg s.payload) (begin (.row i) s) :=
  execOp_runs (op := .row i) hrun.1 hrun.2.1 hv

/-- An operation short of payload emits the events before the wait, and stays there. -/
theorem PausesAfter.exec_waits (h : PausesAfter i s.cfg s.payload before es) (hrun : CanRun s)
    (hv : violation i s.cfg s.latches = none) (hpass : before.all (Machine.passes s.cfg) = true) :
    ∃ t, exec i s = .next t ∧ WaitsAfter i s es t := by
  obtain ⟨aw, valid, work, hbefore⟩ := runMicros_append_of_passes (.row i) (s := begin (.row i) s) hrun.2.2 rfl
    hpass (by simp [h.emits.writesFirst])
  rw [begin_cfg, h.emits.events] at hbefore
  refine ⟨_, ?_, waitsAfter_emitted hrun aw valid work⟩
  rw [exec_runs hrun hv, h.program_eq, hbefore, runMicros_awaitPayload]

/-- What is left of a program once its events are emitted, with a wait after it, runs from the state
the wait was reached in to that state. -/
theorem PausesAfter.runMicros_again (h : PausesAfter i s.cfg s.payload before es) (hrun : CanRun s)
    (hv : violation i s.cfg s.latches = none) (hpass : before.all (Machine.passes s.cfg) = true) {t : State}
    (ht : exec i s = .next t) :
    runMicros (.row i) (afterEvents (eventCount before) before ++ [.awaitPayload]) t = .next t := by
  have hparts := upToEvents_append_afterEvents (eventCount before) before
  have hpass' : (upToEvents (eventCount before) before).all (Machine.passes s.cfg) = true := by
    rw [← hparts, List.all_append, Bool.and_eq_true] at hpass
    exact hpass.1
  have hread : readsWindowFirst (upToEvents (eventCount before) before) = false :=
    readsWindowFirst_of_append (hparts ▸ h.emits.writesFirst)
  obtain ⟨aw, valid, work, hemitted⟩ := runMicros_append_of_passes (.row i) (s := begin (.row i) s) hrun.2.2 rfl
    hpass' (by simp [hread])
  refine runMicros_cursors_again h.trails (emitted_timer (s := worked (begin (.row i) s) aw valid work) rfl)
    ((hemitted _).symm.trans ?_)
  rw [← List.append_assoc, hparts, ← h.program_eq, ← exec_runs hrun hv, ht]

end Pausing

/-- Settles O47: the waiting state is the one the events before the wait lead to, and the step runs
only the cursor moves after the last of them again. -/
theorem shortPayloadLeavesTheBlockWaiting : Obligations.ShortPayloadLeavesTheBlockWaiting := by
  intro i s hrun hr hv hshort hg
  obtain ⟨before, es, hpause⟩ := exists_pausesAfter s.cfg hshort
  have hpass := hpause.passes _ hv hg
  obtain ⟨t, hexec, hwait⟩ := hpause.exec_waits hrun hv hpass
  obtain ⟨rest, hexpand⟩ := hpause.expand_eq
  rw [← hpause.length_eq, hexpand, List.take_left]
  refine ⟨t, hexec, hwait.seq, hwait.busy, hwait.fault, hwait.trace, hwait.pins, ?_⟩
  have hleft : afterEvents es.length (program i s.cfg s.payload) =
      afterEvents (eventCount before) before ++ [.awaitPayload] := by
    rw [hpause.program_eq, ← hpause.emits.eventCount_eq, afterEvents_eventCount_append]
  rw [step_of_running hwait.seq hwait.grain (hwait.resetIn.trans hr), settleWait_of_timer_zero hwait.timer,
    hwait.cfg, hwait.payload]
  exact hleft ▸ hpause.runMicros_again hrun hv hpass hexec

/-! ## The delivery (R66, R261) -/

theorem emits_cursors (c : Cfg) {q : List Micro} (hq : ∀ m ∈ q, ∃ chari cur, m = .cursor chari cur) :
    Emits c q [] := by
  induction q with
  | nil => exact .nil c
  | cons m q ih =>
    obtain ⟨chari, cur, rfl⟩ := hq m (by simp)
    exact (ih fun m hm => hq m (by simp [hm])).cursor chari cur

theorem Emits.unique {c : Cfg} {ms : List Micro} {es fs : List Event} (h : Emits c ms es) (h' : Emits c ms fs) :
    es = fs := (h.events ⟨0, 0, 0, 0⟩).symm.trans (h'.events _)

theorem passes_afterEvents {c : Cfg} {ms : List Micro} (k : Nat) (h : ms.all (passes c) = true) :
    (afterEvents k ms).all (passes c) = true := by
  rw [← upToEvents_append_afterEvents k ms, List.all_append, Bool.and_eq_true] at h
  exact h.2

/-- A waiting operation whose program now goes on with `after` completes in one step, the events of
`after` emitted. -/
theorem WaitsAfter.step_deliver {i : Instr} {s t : State} {before after : List Micro} {es fs : List Event}
    {bs : List Byte} (h : WaitsAfter i s es t) (hr : s.resetIn = false)
    (hpause : PausesAfter i s.cfg s.payload before es)
    (hprogram : program i s.cfg (s.payload ++ bs) = before ++ after) (hafter : Emits s.cfg after fs)
    (hpass : (before ++ after).all (passes s.cfg) = true) :
    ∃ u, step (deliver bs t) = .next u ∧ u.seq = .idle ∧ u.busy = false ∧
      u.trace = s.trace ++ done (es ++ fs) := by
  have hleft : afterEvents es.length (before ++ after) = afterEvents (eventCount before) before ++ after := by
    rw [← hpause.emits.eventCount_eq, afterEvents_eventCount_append]
  have hemits : Emits s.cfg (afterEvents es.length (before ++ after)) fs :=
    hleft ▸ (emits_cursors s.cfg hpause.trails).append hafter
  have hcfg : (settleWait (deliver bs t)).cfg = s.cfg := h.cfg
  obtain ⟨aw, valid, work, hrest⟩ := runMicros_of_passes (.row i) (s := settleWait (deliver bs t)) h.answers rfl
    (hcfg ▸ passes_afterEvents es.length hpass) (by simp [hemits.writesFirst])
  rw [hcfg, hemits.events] at hrest
  have hresume : opProgram (.row i) (deliver bs t).cfg (deliver bs t).payload = before ++ after := by
    show program i t.cfg (t.payload ++ bs) = before ++ after
    rw [h.cfg, h.payload, hprogram]
  have hstep := step_of_running (s := deliver bs t) h.seq h.grain (h.resetIn.trans hr)
  rw [hresume] at hstep
  refine ⟨_, hstep.trans hrest, rfl, rfl, (emitted_trace _ _).trans ?_⟩
  show t.trace ++ done fs = s.trace ++ done (es ++ fs)
  simp [h.trace, done]

/-- Settles O48: the step goes on from the wait with the program of the whole payload, and what it
emits completes the expansion. -/
theorem deliveredPayloadCompletesTheOperation : Obligations.DeliveredPayloadCompletesTheOperation := by
  intro i s t bs hrun hr hv hshort hsupplied hg ht
  obtain ⟨before, es, hpause⟩ := exists_pausesAfter s.cfg hshort
  obtain ⟨after, fs, hprogram, hafter⟩ := hpause.resumes bs hsupplied
  have hpass : (before ++ after).all (passes s.cfg) = true :=
    hprogram ▸ passes_program hrun.1.2 hv hsupplied hg
  obtain ⟨hbefore, -⟩ : before.all (passes s.cfg) = true ∧ after.all (passes s.cfg) = true := by
    simpa [List.all_append] using hpass
  obtain ⟨t', hexec, hwait⟩ := hpause.exec_waits hrun hv hbefore
  obtain rfl : t' = t := by simpa [hexec] using ht
  have hexpand : expand i s.cfg (s.payload ++ bs) = es ++ fs :=
    (emits_program i s.cfg _ hsupplied).unique (hprogram ▸ hpause.emits.append hafter)
  exact hexpand ▸ hwait.step_deliver hr hpause hprogram hafter hpass

end Sys2Proof.Machine
end

section
/-! SUPPORT. The decoder and the encoder as a whole (30_encoding.md R81, R103 to R105): decoding gives an
encoded instruction back, answers only well-formed ones, and takes each operand from its field. -/

namespace Sys2Proof

/-! ## The fields an operand comes from (R103, R104) -/

theorem lowByte_reqA (w : ReqWord) : lowByte (reqA w) = w.extractLsb' 96 8 := by
  ext i hi
  simp [lowByte, reqA]
  omega

theorem lowByte_reqC (w : ReqWord) : lowByte (reqC w) = w.extractLsb' 64 8 := by
  ext i hi
  simp [lowByte, reqC]
  omega

theorem reqFlag0_eq_getLsbD (w : ReqWord) : reqFlag0 w = w.getLsbD 112 := by
  simp [reqFlag0, reqFlags]

@[simp] theorem flag0_getElem_zero (b : Bool) : (flag0 b)[0] = b := flag0_getLsbD b

@[simp] theorem decodePixelUnit_pixelColor (r : BitVec 5) (g : BitVec 6) (b : BitVec 5) :
    decodePixelUnit (pixelColor r g b) = .wirePixelUnit r g b := by
  unfold decodePixelUnit pixelColor
  simp (disch := omega) only [BitVec.extractLsb'_append_eq_of_le, BitVec.extractLsb'_append_eq_of_add_le,
    Nat.reduceSub, BitVec.extractLsb'_eq_self]

/-! ## Reserved operation codes (R105) -/

theorem wellFormed_reserved_iff (op : Byte) :
    (Instr.reserved op).wellFormed = true ↔ op = 0x00#8 ∨ 0x10 ≤ op.toNat := by
  simp [Instr.wellFormed]

theorem decodeRequest_reserved {w : ReqWord} (h : reqOp w = 0x00#8 ∨ 0x10 ≤ (reqOp w).toNat) :
    decodeRequest w = .reserved (reqOp w) := by
  have hne : ∀ k : Byte, 1 ≤ k.toNat → k.toNat < 16 → reqOp w ≠ k := by
    rintro k hpos hlt rfl
    obtain hzero | hge := h
    · simp [hzero] at hpos
    · omega
  simp [decodeRequest, hne]

/-! ## Decoding what was encoded -/

theorem decode_positionFrame (op : Byte) (start stop : U16) :
    decode (.frame (positionFrame op start stop)) = decodePosition op start stop := by
  simp [decode, positionFrame, decodeFrame]

/-- The word of a sendCommand is decoded by its flag, its opcode and its PLEN (R104, R108). -/
theorem decode_sendCommandWord (flag : Bool) (opcode : U16) (plen : U32) :
    decode (.request (requestWord 0x01#8 (flag0 flag) opcode 0#16 0#16 0#16 0#16 plen)) =
      .ok (decodeSendCommand flag (lowByte opcode) plen) := by
  simp [decode, decodeRequest]

theorem decode_encode {i : Instr} (h : i.wellFormed = true) : decode (encode i) = .ok i := by
  cases i with
  | wireSoftwareReset | wireSleepIn | wireSleepOut | wireNormalDisplayOn | wireInversionOff | wireInversionOn
  | wireDisplayOn | wireMemoryWrite | wireMemoryAccessControl => rfl
  | wireColumnAddressSet start stop => exact decode_positionFrame _ start stop
  | wireRowAddressSet start stop => exact decode_positionFrame _ start stop
  | wireColorMode p =>
    have hp : p &&& 0x88#8 = 0#8 := by simpa [Instr.wellFormed] using h
    simp [encode, decode, decodeFrame, decodeOneParameter, opColorMode, opMemoryAccessControl, hp]
  | wirePixelUnit r g b => simp [encode, decode, decodeFrame]
  | sendCommandCmd opcode =>
    obtain ⟨hnormal, hon⟩ : opcode ≠ 0x13#8 ∧ opcode ≠ 0x29#8 := by simpa [Instr.wellFormed] using h
    simp [encode, decode_sendCommandWord, decodeSendCommand, opNormalDisplayOn, opDisplayOn, hnormal, hon]
  | sendCommandCmdData opcode plen =>
    have hplen : plen ≠ 0#32 := by simpa [Instr.wellFormed] using h
    simp [encode, decode_sendCommandWord, decodeSendCommand, hplen]
  | sendCommandData plen =>
    have hplen : plen ≠ 0#32 := by simpa [Instr.wellFormed] using h
    simp [encode, decode_sendCommandWord, decodeSendCommand, hplen]
  | sendCommandNone | normalDisplayOn | displayOn =>
    simp [encode, decode_sendCommandWord, decodeSendCommand, opNormalDisplayOn, opDisplayOn]
  | reserved op =>
    have hop := (wellFormed_reserved_iff op).mp h
    simpa [encode, decode] using decodeRequest_reserved (w := requestWord op 0 0 0 0 0 0 0) (by simpa using hop)
  | _ => simp [encode, decode, decodeRequest]

/-- Settles O56: `decode_encode`, a case for each row of the table. -/
theorem decodeOfEncodeIsTheInstruction : Obligations.DecodeOfEncodeIsTheInstruction :=
  fun _ h => decode_encode h

/-! ## Only well-formed instructions are decoded -/

theorem wellFormed_of_decodeBare {op : Byte} {i : Instr} (h : decodeBare op = .ok i) : i.wellFormed = true := by
  unfold decodeBare at h
  split_ifs at h <;> cases h <;> rfl

theorem wellFormed_of_decodeOneParameter {op p : Byte} {i : Instr} (h : decodeOneParameter op p = .ok i) :
    i.wellFormed = true := by
  unfold decodeOneParameter at h
  split_ifs at h with _ _ hp <;> cases h
  · rfl
  · simpa [Instr.wellFormed] using hp

theorem wellFormed_of_decodePosition {op : Byte} {start stop : U16} {i : Instr}
    (h : decodePosition op start stop = .ok i) : i.wellFormed = true := by
  unfold decodePosition at h
  split_ifs at h <;> cases h <;> rfl

theorem wellFormed_of_decodeFrame {bytes : List (Bool × Byte)} {i : Instr} (h : decodeFrame bytes = .ok i) :
    i.wellFormed = true := by
  unfold decodeFrame at h
  split at h
  · exact wellFormed_of_decodeBare h
  · exact wellFormed_of_decodeOneParameter h
  · exact wellFormed_of_decodePosition h
  · cases h; rfl
  · cases h

theorem wellFormed_decodeSendCommand (hasOp : Bool) (opcode : Byte) (plen : U32) :
    (decodeSendCommand hasOp opcode plen).wellFormed = true := by
  unfold decodeSendCommand
  split_ifs with _ hplen hnormal hon hplen'
  · rfl
  · rfl
  · simpa [Instr.wellFormed] using (⟨hnormal, hon⟩ : opcode ≠ 0x13#8 ∧ opcode ≠ 0x29#8)
  · simpa [Instr.wellFormed] using hplen
  · rfl
  · simpa [Instr.wellFormed] using hplen'

theorem wellFormed_ite {p : Prop} [Decidable p] {i j : Instr} (hi : p → i.wellFormed = true)
    (hj : ¬p → j.wellFormed = true) : (if p then i else j).wellFormed = true := by
  split
  · exact hi ‹p›
  · exact hj ‹¬p›

theorem wellFormed_decodeRequest (w : ReqWord) : (decodeRequest w).wellFormed = true := by
  unfold decodeRequest
  refine wellFormed_ite (fun _ => wellFormed_decodeSendCommand _ _ _) fun _ => ?_
  iterate 14 refine wellFormed_ite (fun _ => rfl) fun _ => ?_
  exact (wellFormed_reserved_iff _).mpr (by bv_omega)

/-- Settles O57: a frame decodes by its shape, and a request word whatever it is. -/
theorem decodedInstructionsAreWellFormed : Obligations.DecodedInstructionsAreWellFormed := by
  refine ⟨fun code i h => ?_, fun w => ⟨decodeRequest w, rfl⟩⟩
  cases code with
  | request w => cases h; exact wellFormed_decodeRequest w
  | frame bytes => exact wellFormed_of_decodeFrame h

/-! ## The operands of each operation code (R103, R104) -/

theorem decodeRequest_sendCommand {w : ReqWord} (h : reqOp w = 0x01#8) :
    decodeRequest w = decodeSendCommand (reqFlag0 w) (lowByte (reqA w)) (reqPlen w) := by
  rw [decodeRequest, if_pos h]

/-- Settles O58: a sendCommand word by its flag and its PLEN, a reserved code whatever the rest of the
word, and each other code by its own branch of the decoder. -/
theorem operandsComeFromTheirFields : Obligations.OperandsComeFromTheirFields := by
  intro w
  rw [← reqFlag0_eq_getLsbD, ← lowByte_reqA, ← lowByte_reqC]
  refine ⟨fun h hflag hplen => ?_, fun h hflag hplen => ?_, fun h hflag hplen => ?_, fun h hflag hplen => ?_,
    decodeRequest_reserved, ?_⟩
  · rw [decodeRequest_sendCommand h, hflag]
    exact if_pos hplen
  · rw [decodeRequest_sendCommand h, hflag]
    exact if_neg hplen
  · rw [decodeRequest_sendCommand h, hflag]
    exact if_pos hplen
  · rw [decodeRequest_sendCommand h, hflag]
    exact if_neg hplen
  · and_intros
    all_goals
      intro h
      have hop : reqOp w = _ := h
      rw [decodeRequest, hop]
      rfl

/-- Settles O59 by running the decoder on each code. -/
theorem specExampleCodesDecode : Obligations.SpecExampleCodesDecode :=
  ⟨rfl, rfl, rfl, rfl, rfl, rfl, rfl, rfl⟩

end Sys2Proof
end

section
/-! SUPPORT. The state an operation of fixed events leaves, in full (30_encoding.md R81 to R97,
40_framing.md R120), and the frames and masked operands that follow from it. -/

namespace Sys2Proof.Machine

/-! ## An operation of fixed events -/

/-- The state after a run of events and the completion, every field of it: what `closed` says, the pins the
events make, and READY. -/
theorem complete_emitted (op : Op) (es : List Event) {s : State} (ht : s.timer = 0) :
    complete op (emitted es s) =
      { closed s es with
        pinCs := (pinsAfter (pinsOf s) es).cs
        pinDc := (pinsAfter (pinsOf s) es).dc
        pinRst := (pinsAfter (pinsOf s) es).rst
        ready := readyAtCompletion op s.ready } := by
  induction es generalizing s with
  | nil =>
    cases s
    cases ht
    simp [emitted, complete, closed, done, txCount, pinsAfter, pinsOf]
  | cons e es ih =>
    rw [emitted, ih rfl]
    cases e <;> simp [closed, done, txCount, pinsAfter, pinsOf, settleWait, emitDone, applyEvent, takeAnswer]

/-- An operation without a check whose program is a list of fixed events runs to its end. -/
theorem exec_emitAll {i : Instr} {s : State} {es : List Event} (hrun : CanRun s)
    (hv : violation i s.cfg s.latches = none) (hp : program i s.cfg s.payload = emitAll es)
    (hi : isInitialize (.row i) = false) :
    exec i s = .next
      { closed s es with
        pinCs := (pinsAfter (pinsOf s) es).cs
        pinDc := (pinsAfter (pinsOf s) es).dc
        pinRst := (pinsAfter (pinsOf s) es).rst } := by
  have hall := runMicros_emitAll (.row i) es [] (begin (.row i) s) hrun.2.2
  rw [List.append_nil] at hall
  rw [exec_runs hrun hv, hp, hall, runMicros_nil, complete_emitted (.row i) es rfl, begin_ready,
    readyAtCompletion_readyAtAcceptance, hi]
  rfl

section Transactions

variable {i : Instr} {s : State} (hrun : CanRun s) (hv : violation i s.cfg s.latches = none)
  (hi : isInitialize (.row i) = false)
include hrun hv hi

theorem exec_traceCommand {op : Byte} (hp : program i s.cfg s.payload = emitAll (traceCommand op)) :
    exec i s = .next { closed s (traceCommand op) with pinDc := false } := exec_emitAll hrun hv hp hi

theorem exec_traceCommandData {op : Byte} {bs : List Byte}
    (hp : program i s.cfg s.payload = emitAll (traceCommandData op bs)) :
    exec i s = .next { closed s (traceCommandData op bs) with pinDc := true } := exec_emitAll hrun hv hp hi

theorem exec_traceData {bs : List Byte} (hp : program i s.cfg s.payload = emitAll (traceData bs)) :
    exec i s = .next { closed s (traceData bs) with pinDc := true } := exec_emitAll hrun hv hp hi

end Transactions

/-! ## The frames (R81 to R95) -/

/-- Settles O8: the program of each frame is its command's transaction. -/
theorem bareCommandFramesRunToEnd : Obligations.BareCommandFramesRunToEnd := by
  intro s hrun
  exact ⟨exec_traceCommand hrun rfl rfl rfl, exec_traceCommand hrun rfl rfl rfl, exec_traceCommand hrun rfl rfl rfl,
    exec_traceCommand hrun rfl rfl rfl, exec_traceCommand hrun rfl rfl rfl, exec_traceCommand hrun rfl rfl rfl,
    exec_traceCommand hrun rfl rfl rfl, exec_traceCommand hrun rfl rfl rfl⟩

theorem bytes16_toNat (v : U16) : bytes16 v.toNat = be16 v := by
  have hhigh : highByte v = BitVec.ofNat 8 (v.toNat >>> 8) := rfl
  have hlow : lowByte v = BitVec.ofNat 8 v.toNat := rfl
  rw [bytes16, be16, hhigh, hlow, Nat.shiftRight_eq_div_pow]

/-- Putting two vectors side by side is a sum, the upper one moved up by the width of the lower. -/
theorem toNat_append_eq_add {m n : Nat} (x : BitVec m) (y : BitVec n) :
    (x ++ y).toNat = x.toNat * 2 ^ n + y.toNat := by
  rw [BitVec.toNat_append, ← Nat.shiftLeft_add_eq_or_of_lt y.isLt, Nat.shiftLeft_eq]

theorem toNat_pixelColor (r : BitVec 5) (g : BitVec 6) (b : BitVec 5) :
    (pixelColor r g b).toNat = r.toNat * 2048 + g.toNat * 32 + b.toNat := by
  have h : (pixelColor r g b).toNat = (r ++ g).toNat * 2 ^ 5 + b.toNat := toNat_append_eq_add (r ++ g) b
  rw [h, toNat_append_eq_add]
  omega

/-- Settles O9: the bytes of a position and of a pixel unit are those of their 16-bit values. -/
theorem payloadFramesRunToEnd : Obligations.PayloadFramesRunToEnd := by
  intro s hrun
  refine ⟨fun start stop => ?_, fun start stop => ?_, fun p => exec_traceCommandData hrun rfl rfl rfl,
    fun p => exec_traceCommandData hrun rfl rfl rfl, fun r g b => ?_⟩
  · rw [bytes16_toNat, bytes16_toNat]
    exact exec_traceCommandData hrun rfl rfl rfl
  · rw [bytes16_toNat, bytes16_toNat]
    exact exec_traceCommandData hrun rfl rfl rfl
  · rw [← toNat_pixelColor, bytes16_toNat]
    exact exec_traceData hrun rfl rfl rfl

/-! ## Masked operands (R99) -/

theorem orientEntry_and_seven (t : OrientTable) (orientation : Byte) :
    orientEntry t (orientation &&& 7#8) = orientEntry t orientation := by
  simp [orientEntry, BitVec.and_assoc]

/-- Settles O20: neither operation has a check, and the byte sent is a function of the masked operand. -/
theorem maskedOperandsNeverFault : Obligations.MaskedOperandsNeverFault := by
  intro s hrun
  refine ⟨fun mode => ⟨_, exec_traceCommandData hrun rfl rfl rfl, rfl, rfl, rfl⟩, fun orientation isBgr =>
    ⟨_, _, exec_traceCommandData hrun rfl rfl rfl, exec_traceCommandData hrun rfl rfl rfl, rfl, rfl, ?_⟩⟩
  simp only [memoryAccessByte, orientEntry_and_seven]

end Sys2Proof.Machine
end

section
/-! SUPPORT. The requests that are no operation (30_encoding.md R105, 40_framing.md R124): their check fails
with IllegalRequest, at the meaning and at the step on a request word. -/

namespace Sys2Proof.Machine

/-! ## The step on what the host asks for (R28, R33) -/

section Idle

variable {s : State} (hreset : s.resetIn = false) (hidle : s.seq = .idle)
include hreset hidle

theorem step_of_presented {a : Ask} {rest : List Ask} (hinbox : s.inbox = a :: rest) :
    step s = fetch a { s with inbox := rest } := by
  simp [step, stepBlock, hreset, hidle, hinbox]

theorem step_of_coded {o : Offer} {i : Instr} {rest : List Ask} (hinbox : s.inbox = .coded o :: rest)
    (hdecode : decode o.code = .ok i) : step s = exec i (takeOffer o { s with inbox := rest }) := by
  rw [step_of_presented hreset hidle hinbox]
  simp [fetch, hdecode]

theorem step_of_call {r : Request} {rest : List Ask} (hinbox : s.inbox = .call r :: rest) :
    step s = execRequest r (takeOffer (lower r) { s with inbox := rest }) :=
  step_of_presented hreset hidle hinbox

end Idle

/-! ## Requests that are no operation -/

section Rejected

variable {s : State} (hcan : CanAccept s)
include hcan

/-- A row whose check is IllegalRequest takes that fault, with OP, FLAGS and A as latched (R220). -/
theorem exec_illegal {i : Instr} (hv : violation i s.cfg s.latches = some (illegalRequest s.latches)) :
    exec i s = .next (faultedAtAcceptance s 1 (s.latches.op ++ s.latches.flags ++ s.latches.a)) :=
  execOp_raises (op := .row i) hcan hv

theorem execRequest_illegal {r : Request}
    (hv : requestViolation r s.cfg s.latches = some (illegalRequest s.latches)) :
    execRequest r s = .next (faultedAtAcceptance s 1 (s.latches.op ++ s.latches.flags ++ s.latches.a)) :=
  execOp_raises (op := .call r) hcan hv

end Rejected

theorem textViolation_of_no_text {c : Cfg} (l : Latches) (h : c.hasText = false) :
    textViolation c l = some (illegalRequest l) := by
  simp [textViolation, h]

theorem programSendCommand_zero (opcode : Option Byte) (payload : List Byte) :
    programSendCommand opcode 0 payload = emitAll (txn opcode none) := rfl

/-- Settles O12: each check is IllegalRequest; an opcode without payload has none, and its program is the
bare command. -/
theorem requestsThatAreNoOperationAreIllegal : Obligations.RequestsThatAreNoOperationAreIllegal := by
  intro s hcan
  refine ⟨exec_illegal hcan rfl, exec_illegal hcan rfl, execRequest_illegal hcan rfl,
    fun op => exec_illegal hcan rfl, fun code x y color htext => ?_, fun plen x y color htext => ?_,
    fun code string x y color htext => ⟨?_, ?_⟩, fun opcode hrun => ?_⟩
  · exact exec_illegal hcan (textViolation_of_no_text _ htext)
  · exact exec_illegal hcan (textViolation_of_no_text _ htext)
  · exact execRequest_illegal hcan (textViolation_of_no_text _ htext)
  · exact execRequest_illegal hcan (textViolation_of_no_text _ htext)
  · exact exec_traceCommand hrun rfl rfl (programSendCommand_zero _ _)

/-! ## Request words that name no operation -/

/-- Bits 127:96 of a word are its fields OP, FLAGS and A (R103, R220). -/
theorem fields_append_eq_extractLsb' (w : ReqWord) :
    reqOp w ++ reqFlags w ++ reqA w = w.extractLsb' 96 32 := by
  have hopFlags : reqOp w ++ reqFlags w = w.extractLsb' 112 16 :=
    BitVec.extractLsb'_append_extractLsb'_eq_extractLsb' rfl
  rw [hopFlags]
  exact BitVec.extractLsb'_append_extractLsb'_eq_extractLsb' rfl

/-- The check of an instruction decoded from a word that names no operation. -/
theorem violation_decodeRequest_of_no_operation {w : ReqWord} {c : Cfg} (l : Latches)
    (h : reqOp w = 0x00#8 ∨ 0x10 ≤ (reqOp w).toNat ∨
      (c.hasText = false ∧ (reqOp w = 0x0E#8 ∨ reqOp w = 0x0F#8)) ∨
      (reqOp w = 0x01#8 ∧ reqFlag0 w = false ∧ reqPlen w = 0#32)) :
    violation (decodeRequest w) c l = some (illegalRequest l) := by
  obtain hzero | hge | ⟨htext, hchar | hstring⟩ | ⟨hop, hflag, hplen⟩ := h
  · rw [decodeRequest_reserved (.inl hzero)]
    rfl
  · rw [decodeRequest_reserved (.inr hge)]
    rfl
  · rw [decodeRequest, hchar]
    exact textViolation_of_no_text l htext
  · rw [decodeRequest, hstring]
    exact textViolation_of_no_text l htext
  · rw [decodeRequest_sendCommand hop, hflag, hplen]
    rfl

/-- Settles O13: the word decodes, its latches are loaded, and the check of what it decodes to fails. -/
theorem wordsThatNameNoOperationFault : Obligations.WordsThatNameNoOperationFault := by
  intro s w bs rest hreset hcan hinbox h
  rw [← reqFlag0_eq_getLsbD] at h
  rw [step_of_coded hreset hcan.1 hinbox rfl, ← fields_append_eq_extractLsb']
  exact exec_illegal (s := takeOffer ⟨.request w, bs⟩ { s with inbox := rest }) hcan
    (violation_decodeRequest_of_no_operation _ h)

end Sys2Proof.Machine
end

section
/-! SUPPORT. A request of the abstract form and the row of the opcode table its descriptor names
(30_encoding.md R101, R103, 92_eei_decisions.md D3): the descriptor is that row's code, both have the same
check and the same program, and a run does not depend on the name of the operation it runs for. -/

namespace Sys2Proof.Machine

/-! ## The row of a request -/

/-- The row of the opcode table a request's descriptor names, each operand narrowed to its field. -/
def rowOf : Request → Instr
  | .sendCommand none none => .sendCommandNone
  | .sendCommand none (some p) => .sendCommandData (fieldPlen p.toList.length)
  | .sendCommand (some op) none =>
    if op = opNormalDisplayOn then .normalDisplayOn
    else if op = opDisplayOn then .displayOn
    else .sendCommandCmd op
  | .sendCommand (some op) (some p) => .sendCommandCmdData op (fieldPlen p.toList.length)
  | .setAddressWindow x0 y0 x1 y1 => .setAddressWindow (field16 x0) (field16 y0) (field16 x1) (field16 y1)
  | .drawPixel x y color => .drawPixel (field16 x) (field16 y) color
  | .fillRectangle x y w h color => .fillRectangle (field16 x) (field16 y) (field16 w) (field16 h) color
  | .fillScreen color => .fillScreen color
  | .blitBuffer buffer x y w h =>
    .blitBuffer (field16 x) (field16 y) (field16 w) (field16 h) (fieldPlen buffer.length)
  | .hardReset => .hardReset
  | .softReset => .softReset
  | .setSleep enabled => .setSleep enabled
  | .setInversion enabled => .setInversion enabled
  | .setColorMode mode => .setColorMode (BitVec.ofNat 8 mode)
  | .setMemoryAccessMode orientation isBgr => .setMemoryAccessMode (BitVec.ofNat 8 orientation) isBgr
  | .initializePanel => .initializePanel
  | .drawChar code x y color => .drawChar (BitVec.ofNat 8 code) (field16 x) (field16 y) color
  | .drawText string x y color => .drawText (fieldPlen string.length) (field16 x) (field16 y) color

/-- What holds of the three rows a command without payload can be holds of the row it is. -/
theorem rowOf_command {P : Instr → Prop} (op : Byte) (hnormal : op = 0x13#8 → P .normalDisplayOn)
    (hon : op = 0x29#8 → P .displayOn) (hcmd : op ≠ 0x13#8 → op ≠ 0x29#8 → P (.sendCommandCmd op)) :
    P (rowOf (.sendCommand (some op) none)) := by
  rw [rowOf]
  split_ifs with h h'
  · exact hnormal h
  · exact hon h'
  · exact hcmd h h'

theorem encode_rowOf (r : Request) : encode (rowOf r) = .request (requestDescriptor r) := by
  cases r with
  | sendCommand opcode p =>
    rcases opcode with - | op <;> rcases p with - | bytes
    case some.none =>
      refine rowOf_command (P := fun i => encode i = .request (requestDescriptor (.sendCommand (some op) none))) op
        ?_ ?_ fun _ _ => rfl
      · rintro rfl; rfl
      · rintro rfl; rfl
    all_goals rfl
  | _ => rfl

theorem toNat_fieldPlen {n : Nat} (h : n < 2 ^ 32) : (fieldPlen n).toNat = n := by
  simpa [fieldPlen] using h

theorem fieldPlen_ne_zero {n : Nat} (h : n < 2 ^ 32) (hpos : 0 < n) : fieldPlen n ≠ 0#32 := by
  intro hzero
  have := toNat_fieldPlen h
  simp [hzero] at this
  omega

theorem length_toList_pos (p : NonEmptyBytes) : 0 < p.toList.length := by
  simp [NonEmptyBytes.toList]

/-- The PLEN of a sendCommand's payload is not the 0 that stands for none (R104). -/
theorem fieldPlen_ne_zero_of_fits {c : Cfg} {opcode : Option Byte} {p : NonEmptyBytes}
    (h : requestFits c (.sendCommand opcode (some p)) = true) : fieldPlen p.toList.length ≠ 0#32 :=
  fieldPlen_ne_zero (of_decide_eq_true h) (length_toList_pos p)

theorem wellFormed_rowOf {c : Cfg} {r : Request} (h : requestFits c r = true) :
    (rowOf r).wellFormed = true := by
  cases r with
  | sendCommand opcode p =>
    rcases opcode with - | op <;> rcases p with - | bytes
    case some.none =>
      refine rowOf_command (P := fun i => i.wellFormed = true) op (fun _ => rfl) (fun _ => rfl) fun hnormal hon => ?_
      simp [Instr.wellFormed, hnormal, hon]
    case none.none => rfl
    all_goals simpa [rowOf, Instr.wellFormed] using fieldPlen_ne_zero_of_fits h
  | _ => rfl

/-- The descriptor of a request that fits decodes to the request's row (R103). -/
theorem decode_lower {c : Cfg} {r : Request} (h : requestFits c r = true) :
    decode (lower r).code = .ok (rowOf r) := by
  rw [show (lower r).code = encode (rowOf r) from (encode_rowOf r).symm]
  exact decode_encode (wellFormed_rowOf h)

theorem isInitialize_rowOf (r : Request) : isInitialize (.row (rowOf r)) = isInitialize (.call r) := by
  cases r with
  | sendCommand opcode p =>
    rcases opcode with - | op <;> rcases p with - | bytes
    case some.none =>
      exact rowOf_command (P := fun i => isInitialize (.row i) = false) op (fun _ => rfl) (fun _ => rfl)
        fun _ _ => rfl
    all_goals rfl
  | _ => rfl

/-! ## The row's check and program -/

theorem fits16_iff (v : Int) : fits16 v = true ↔ 0 ≤ v ∧ v < 65536 := by
  simp [fits16]

theorem toNat_field16 {v : Int} (h : fits16 v = true) : ((field16 v).toNat : Int) = v := by
  obtain ⟨hnonneg, hlt⟩ := (fits16_iff v).mp h
  simp only [field16, BitVec.toNat_ofInt]
  omega

theorem charCode_ofNat {c : Cfg} {code : Nat} (h : fitsCode c code = true) :
    charCode c (BitVec.ofNat 8 code) = code := by
  obtain ⟨hbyte, hbits⟩ : code < 256 ∧ code < 2 ^ c.charBits := by simpa [fitsCode] using h
  rw [charCode, BitVec.toNat_ofNat, Nat.mod_eq_of_lt hbyte, Nat.mod_eq_of_lt hbits]

theorem violation_rowOf {c : Cfg} {r : Request} (l : Latches) (h : requestFits c r = true) :
    violation (rowOf r) c l = requestViolation r c l := by
  cases r with
  | sendCommand opcode p =>
    rcases opcode with - | op <;> rcases p with - | bytes
    case some.none =>
      exact rowOf_command (P := fun i => violation i c l = none) op (fun _ => rfl) (fun _ => rfl)
        fun _ _ => rfl
    case none.some =>
      simp [rowOf, violation, requestViolation, sendCommandViolation, fieldPlen_ne_zero_of_fits h]
    all_goals rfl
  | setAddressWindow x0 y0 x1 y1 =>
    simp only [requestFits, Bool.and_eq_true] at h
    simp [rowOf, violation, requestViolation, toNat_field16, h]
  | drawPixel x y color =>
    simp only [requestFits, Bool.and_eq_true] at h
    simp [rowOf, violation, requestViolation, toNat_field16, h]
  | fillRectangle x y width height color =>
    simp only [requestFits, Bool.and_eq_true] at h
    simp [rowOf, violation, requestViolation, toNat_field16, h]
  | blitBuffer buffer x y width height =>
    simp only [requestFits, Bool.and_eq_true, decide_eq_true_eq] at h
    obtain ⟨hfits, hlen⟩ := h
    simp [rowOf, violation, requestViolation, toNat_field16, toNat_fieldPlen hlen, hfits]
  | _ => rfl

theorem payloadBytes_length (payload : List Byte) : payloadBytes payload payload.length = some payload := by
  rw [payloadBytes_of_le le_rfl, List.take_length]

theorem programSendCommand_all {c : Cfg} {opcode : Option Byte} {p : NonEmptyBytes}
    (h : requestFits c (.sendCommand opcode (some p)) = true) :
    programSendCommand opcode (fieldPlen p.toList.length) p.toList = emitAll (txn opcode (some p.toList)) := by
  have hlen : p.toList.length < 2 ^ 32 := of_decide_eq_true h
  simp [programSendCommand, payloadBytes_length, expandSendCommand, payloadArgument,
    fieldPlen_ne_zero_of_fits h, toNat_fieldPlen hlen]

theorem programDrawText_all {c : Cfg} {string : List Nat} (x y : Int) (color : U16)
    (hcodes : string.all (fitsCode c) = true) (hlen : string.length < 2 ^ 32) :
    programDrawText c (fieldPlen string.length) x y color (string.map (BitVec.ofNat 8)) =
      programText c y color 0 x string := by
  have hread : string.map (charCode c ∘ BitVec.ofNat 8) = string :=
    (List.map_congr_left fun code hcode => charCode_ofNat (List.all_eq_true.mp hcodes code hcode)).trans
      (List.map_id string)
  have hbytes := payloadBytes_length (string.map (BitVec.ofNat 8))
  rw [List.length_map] at hbytes
  simp [programDrawText, toNat_fieldPlen hlen, hbytes, hread]

theorem program_rowOf {c : Cfg} {r : Request} (h : requestFits c r = true) :
    program (rowOf r) c (requestPayload r) = requestProgram r c := by
  cases r with
  | sendCommand opcode p =>
    rcases opcode with - | op <;> rcases p with - | bytes
    case some.none =>
      refine rowOf_command (P := fun i => program i c [] = emitAll (txn (some op) none)) op ?_ ?_ fun _ _ => rfl
      · rintro rfl; rfl
      · rintro rfl; rfl
    case none.none => rfl
    all_goals exact programSendCommand_all h
  | setAddressWindow x0 y0 x1 y1 =>
    simp only [requestFits, Bool.and_eq_true] at h
    simp [rowOf, program, requestProgram, toNat_field16, h]
  | drawPixel x y color =>
    simp only [requestFits, Bool.and_eq_true] at h
    simp [rowOf, program, requestProgram, toNat_field16, h]
  | fillRectangle x y width height color =>
    simp only [requestFits, Bool.and_eq_true] at h
    simp [rowOf, program, requestProgram, toNat_field16, h]
  | blitBuffer buffer x y width height =>
    simp only [requestFits, Bool.and_eq_true, decide_eq_true_eq] at h
    obtain ⟨hfits, hlen⟩ := h
    simp [rowOf, program, requestProgram, programBlit, requestPayload, payloadBytes_length, toNat_field16,
      toNat_fieldPlen hlen, hfits]
  | drawChar code x y color =>
    simp only [requestFits, Bool.and_eq_true] at h
    simp [rowOf, program, requestProgram, toNat_field16, charCode_ofNat, h]
  | drawText string x y color =>
    simp only [requestFits, Bool.and_eq_true, decide_eq_true_eq] at h
    obtain ⟨⟨⟨hx, hy⟩, hcodes⟩, hlen⟩ := h
    rw [rowOf, program, toNat_field16 hx, toNat_field16 hy]
    exact programDrawText_all x y color hcodes hlen
  | _ => rfl

/-! ## A request's program waits for no payload (R101) -/

theorem awaitPayload_notMem_emitAll (es : List Event) : .awaitPayload ∉ emitAll es := by
  simp [emitAll]

theorem awaitPayload_notMem_programWindow (x0 y0 x1 y1 : Int) : .awaitPayload ∉ programWindow x0 y0 x1 y1 := by
  simp [programWindow, windowTransactions, awaitPayload_notMem_emitAll]

theorem awaitPayload_notMem_programFullBatches (chunk : Nat) (color : U16) (q total : Nat) :
    .awaitPayload ∉ programFullBatches chunk color q total := by
  induction q generalizing total with
  | zero => simp [programFullBatches]
  | succ q ih => simp [programFullBatches, programBatch, ih]

theorem awaitPayload_notMem_programFill (c : Cfg) (x y w h : Int) (color : U16) :
    .awaitPayload ∉ programFill c x y w h color := by
  have hpartial (n : Nat) : .awaitPayload ∉ (if 0 < n then programBatch color n 0 else []) := by
    split <;> simp [programBatch]
  simp [programFill, programRectangleWindow, programBatches, awaitPayload_notMem_programWindow,
    awaitPayload_notMem_programFullBatches, hpartial]

theorem awaitPayload_notMem_programDrawChar (c : Cfg) (code : Nat) (x y : Int) (color : U16) :
    .awaitPayload ∉ programDrawChar c code x y color := by
  simp [programDrawChar, programGlyphPixel, windowTransactions, awaitPayload_notMem_emitAll]

theorem awaitPayload_notMem_programText (c : Cfg) (y : Int) (color : U16) (chari : Nat) (cur : Int)
    (codes : List Nat) : .awaitPayload ∉ programText c y color chari cur codes := by
  induction codes generalizing chari cur with
  | nil => simp [programText]
  | cons code codes ih => simp [programText, awaitPayload_notMem_programDrawChar, ih]

theorem awaitPayload_notMem_requestProgram (r : Request) (c : Cfg) : .awaitPayload ∉ requestProgram r c := by
  cases r with
  | sendCommand opcode p =>
    rcases opcode with - | op <;> rcases p with - | bytes
    · simp [requestProgram]
    all_goals exact awaitPayload_notMem_emitAll _
  | setAddressWindow x0 y0 x1 y1 => exact awaitPayload_notMem_programWindow _ _ _ _
  | drawPixel x y color =>
    simp [requestProgram, programDrawPixel, awaitPayload_notMem_programWindow, awaitPayload_notMem_emitAll]
  | fillRectangle x y w h color => exact awaitPayload_notMem_programFill c _ _ _ _ color
  | fillScreen color => exact awaitPayload_notMem_programFill c _ _ _ _ color
  | blitBuffer buffer x y w h =>
    simp [requestProgram, programRectangleWindow, awaitPayload_notMem_programWindow, awaitPayload_notMem_emitAll]
  | initializePanel =>
    simp [requestProgram, programInitialize, awaitPayload_notMem_programFill, awaitPayload_notMem_emitAll]
  | drawChar code x y color => exact awaitPayload_notMem_programDrawChar c _ _ _ color
  | drawText string x y color => exact awaitPayload_notMem_programText c _ color _ _ string
  | _ => exact awaitPayload_notMem_emitAll _

/-! ## The name of the operation does not show in its run (R14) -/

/-- The sequencer position with another operation in it. -/
def Seq.withOp (op : Op) : Seq → Seq
  | .idle => .idle
  | .run _ k => .run op k
  | .faulted => .faulted

/-- The state with another operation running, at the same event. -/
def withOp (op : Op) (s : State) : State := { s with seq := s.seq.withOp op }

theorem eventIndex_withOp (op : Op) (q : Seq) : eventIndex (q.withOp op) = eventIndex q := by
  cases q <;> rfl

theorem advanceSeq_withOp (op : Op) (q : Seq) : advanceSeq (q.withOp op) = (advanceSeq q).withOp op := by
  cases q <;> rfl

theorem emitDone_withOp (op : Op) (e : Event) (s : State) :
    emitDone e (withOp op s) = withOp op (emitDone e s) := by
  cases e <;> simp [emitDone, withOp, applyEvent, advanceSeq_withOp]

theorem failTx_withOp (op : Op) (bs : List Byte) (sent : Nat) (s : State) :
    failTx bs sent (withOp op s) = withOp op (failTx bs sent s) := by
  simp only [failTx, raise, withOp, eventIndex_withOp]
  rfl

theorem emit_withOp (op : Op) (e : Event) (s : State) : emit e (withOp op s) = (emit e s).map (withOp op) := by
  cases e with
  | cs a => exact congrArg Progress.go (emitDone_withOp op _ s)
  | dc l => exact congrArg Progress.go (emitDone_withOp op _ s)
  | rst l => exact congrArg Progress.go (emitDone_withOp op _ s)
  | wait n => exact congrArg Progress.go (emitDone_withOp op _ s)
  | tx bs =>
    have ht : (withOp op s).transport = s.transport := rfl
    rcases h : s.transport with - | ⟨- | sent, rest⟩ <;> simp only [emit, ht, h]
    · exact congrArg Progress.go (emitDone_withOp op _ s)
    · exact congrArg Progress.go (emitDone_withOp op _ { s with transport := rest })
    · exact congrArg Progress.halt (failTx_withOp op bs sent { s with transport := rest })

theorem openWindow_withOp (op : Op) (x0 y0 x1 y1 : Int) (s : State) :
    openWindow x0 y0 x1 y1 (withOp op s) = (openWindow x0 y0 x1 y1 s).map (withOp op) := by
  have hc : (withOp op s).cfg = s.cfg := rfl
  cases h : windowViolation s.cfg x0 y0 x1 y1 <;> simp only [openWindow, hc, h] <;> rfl

theorem emitPosition_withOp (op : Op) (a b : U16) (s : State) :
    emitPosition a b (withOp op s) = (emitPosition a b s).map (withOp op) := by
  have hv : (withOp op s).awValid = s.awValid := rfl
  cases h : s.awValid
  · simp [emitPosition, hv, h, Progress.map]
  · simpa [emitPosition, hv, h] using emit_withOp op _ s

theorem perform_withOp (op : Op) (m : Micro) (s : State) :
    perform m (withOp op s) = (perform m s).map (withOp op) := by
  cases m with
  | emit e => exact emit_withOp op e s
  | columnPayload => exact emitPosition_withOp op s.aw.xs s.aw.xe s
  | rowPayload => exact emitPosition_withOp op s.aw.ys s.aw.ye s
  | window x0 y0 x1 y1 => exact openWindow_withOp op x0 y0 x1 y1 s
  | glyphPixel x y row col => exact openWindow_withOp op _ _ _ _ (pixelReached row col s)
  | remaining n => rfl
  | cursor chari cur => rfl
  | awaitPayload => rfl

theorem withOp_of_faulted (op : Op) {s : State} (h : s.seq = .faulted) : withOp op s = s := by
  cases s
  cases h
  rfl

/-- A micro step that stops has taken a fault, unless it waits for payload (R66, R224). -/
theorem faulted_of_perform_halt {m : Micro} {s s' : State} (hm : m ≠ .awaitPayload)
    (h : perform m s = .halt s') : s'.seq = .faulted := by
  obtain ⟨_, _, _, -, rfl⟩ | ⟨_, _, _, rfl⟩ | ⟨hawait, -⟩ := perform_halt_cases h
  · rfl
  · rfl
  · exact absurd hawait hm

/-- A program that waits for no payload ends in the same way whatever the operation is called: it has run
to its end, and only the panel's initialization is told apart there, or a fault has been taken. -/
theorem runMicros_withOp {op op' : Op} (hinit : isInitialize op' = isInitialize op) {ms : List Micro}
    (hms : .awaitPayload ∉ ms) (s : State) : runMicros op' ms (withOp op' s) = runMicros op ms s := by
  induction ms generalizing s with
  | nil => simp [runMicros_nil, complete, withOp, readyAtCompletion, hinit]
  | cons m ms ih =>
    obtain ⟨hm, hrest⟩ : m ≠ .awaitPayload ∧ .awaitPayload ∉ ms := by
      simpa [List.mem_cons, eq_comm] using hms
    have hp := perform_withOp op' m s
    cases hs : perform m s with
    | go s' =>
      rw [hs] at hp
      rw [runMicros_go op' m ms _ _ hp, runMicros_go op m ms s s' hs]
      exact ih hrest (settleWait s')
    | halt s' =>
      rw [hs, Progress.map, withOp_of_faulted op' (faulted_of_perform_halt hm hs)] at hp
      rw [runMicros_halt op' m ms _ _ hp, runMicros_halt op m ms s s' hs]
    | broken f =>
      rw [hs] at hp
      rw [runMicros_broken op' m ms _ f hp, runMicros_broken op m ms s f hs]

theorem begin_eq_withOp {op op' : Op} (hinit : isInitialize op' = isInitialize op) (s : State) :
    begin op' s = withOp op' (begin op s) := by
  simp [begin, withOp, Seq.withOp, readyAtAcceptance, hinit]

theorem accept_congr_op {op op' : Op} (hinit : isInitialize op' = isInitialize op) {ms : List Micro}
    (hms : .awaitPayload ∉ ms) (check : Option Violation) {s : State} (hg : s.grain = .operation) :
    accept op' check ms s = accept op check ms s := by
  have hlaunch : launch op' ms s = launch op ms s := by
    simp [launch, hg, begin_eq_withOp hinit, runMicros_withOp hinit hms]
  simp [accept, hlaunch]

/-! ## A request does what its descriptor does (R101, R103) -/

theorem execRequest_eq_exec_rowOf {r : Request} {s : State} (hg : s.grain = .operation)
    (h : requestFits s.cfg r = true) (hp : s.payload = requestPayload r) :
    execRequest r s = exec (rowOf r) s := by
  rw [exec_eq_accept, violation_rowOf _ h, hp, program_rowOf h]
  exact (accept_congr_op (isInitialize_rowOf r) (awaitPayload_notMem_requestProgram r s.cfg) _ hg).symm

/-- Settles O4: both steps take the same latches and payload stream, and then the request does what its row
does. -/
theorem requestsRunAsTheirDescriptors : Obligations.RequestsRunAsTheirDescriptors := by
  intro r s rest hreset hidle hg h
  rw [step_of_call (s := { s with inbox := .call r :: rest }) hreset hidle rfl,
    step_of_coded (s := { s with inbox := .coded (lower r) :: rest }) hreset hidle rfl (decode_lower h)]
  exact execRequest_eq_exec_rowOf (by simpa using hg) (by simpa using h) (takeOffer_payload _ _)

end Sys2Proof.Machine
end

section
/-! SUPPORT. The transaction of a sendCommand (40_framing.md R120 to R125): its events in each of the
three forms, the pins it leaves, and the run of the operation. -/

namespace Sys2Proof.Machine

/-! ## The three forms of a transaction (R120) -/

theorem txn_opcode (op : Byte) : txn (some op) none = traceCommand op := rfl

theorem txn_opcode_payload (op : Byte) (bs : List Byte) : txn (some op) (some bs) = traceCommandData op bs := rfl

theorem txn_data (bs : List Byte) : txn none (some bs) = traceData bs := rfl

/-! ## The pins a transaction leaves (R125) -/

theorem pinsAfter_traceCommand (p : Pins) (op : Byte) :
    pinsAfter p (traceCommand op) = { cs := false, dc := false, rst := p.rst } := rfl

theorem pinsAfter_traceCommandData (p : Pins) (op : Byte) (bs : List Byte) :
    pinsAfter p (traceCommandData op bs) = { cs := false, dc := true, rst := p.rst } := rfl

theorem pinsAfter_traceData (p : Pins) (bs : List Byte) :
    pinsAfter p (traceData bs) = { cs := false, dc := true, rst := p.rst } := rfl

/-- Settles O14, from the last level each form gives to each pin. -/
theorem transactionLeavesThePins : Obligations.TransactionLeavesThePins := by
  intro p op bs
  rw [txn_opcode, txn_opcode_payload, txn_data]
  exact ⟨pinsAfter_traceCommand p op, pinsAfter_traceCommandData p op bs, pinsAfter_traceData p bs⟩

/-! ## sendCommand (R121 to R123) -/

/-- Settles O10: each program is the transaction of the opcode alone. -/
theorem sendCommandWithOpcodeRunsToEnd : Obligations.SendCommandWithOpcodeRunsToEnd := by
  intro s hrun
  exact ⟨fun opcode => exec_traceCommand hrun rfl rfl (programSendCommand_zero (some opcode) s.payload),
    exec_traceCommand hrun rfl rfl rfl, exec_traceCommand hrun rfl rfl rfl⟩

/-- With its payload in the stream, the program of a sendCommand is one transaction of the first PLEN bytes. -/
theorem programSendCommand_of_le (opcode : Option Byte) {plen : U32} {payload : List Byte} (hne : plen ≠ 0#32)
    (hle : plen.toNat ≤ payload.length) :
    programSendCommand opcode plen payload = emitAll (txn opcode (some (payload.take plen.toNat))) := by
  simp only [programSendCommand, payloadBytes_of_le hle, expandSendCommand, payloadArgument, if_neg hne]

/-- A payload that is present makes a sendCommand an operation (R124). -/
theorem sendCommandViolation_of_ne_zero (opcode : Option Byte) {plen : U32} (l : Latches) (hne : plen ≠ 0#32) :
    sendCommandViolation opcode plen l = none :=
  if_neg fun h => hne h.2

/-- Settles O11: both programs are the transaction of the first PLEN bytes; without an opcode the check
passes because PLEN is not 0. -/
theorem sendCommandWithPayloadRunsToEnd : Obligations.SendCommandWithPayloadRunsToEnd := by
  intro s plen hrun hne hle
  refine ⟨fun opcode => ?_, ?_⟩
  · exact exec_traceCommandData hrun rfl rfl (programSendCommand_of_le (some opcode) hne hle)
  · exact exec_traceData (i := .sendCommandData plen) hrun (sendCommandViolation_of_ne_zero none s.latches hne) rfl
      (programSendCommand_of_le none hne hle)

end Sys2Proof.Machine
end

section
/-! SUPPORT. The panel control operations (41_control.md R140 to R147): the run of events none of which
needs the transport, the abstract form as its row, and the bytes of the two masked operands. -/

namespace Sys2Proof.Machine

/-! ## Events that need no transport (R140) -/

theorem emit_of_txCount_zero {e : Event} (h : txCount [e] = 0) (s : State) :
    emit e s = .go (emitDone e (takeAnswer e s)) := by
  cases e with
  | tx bs => cases h
  | _ => rfl

theorem txCount_cons (e : Event) (es : List Event) : txCount (e :: es) = txCount [e] + txCount es := by
  cases e with
  | tx bs => exact Nat.add_comm _ _
  | _ => exact (Nat.zero_add _).symm

/-- The run of events without a TX, whatever the transport would answer. -/
theorem runMicros_emitAll_of_txCount_zero (op : Op) {es : List Event} (h : txCount es = 0) (s : State) :
    runMicros op (emitAll es) s = .next (complete op (emitted es s)) := by
  induction es generalizing s with
  | nil => rfl
  | cons e es ih =>
    obtain ⟨he, hes⟩ : txCount [e] = 0 ∧ txCount es = 0 := by
      rw [txCount_cons] at h
      omega
    exact (runMicros_go op (.emit e) (emitAll es) s _ (emit_of_txCount_zero he s)).trans (ih hes _)

/-- Settles O15: no event of the pulse is a TX, so the run emits all eight of them. -/
theorem hardResetRunsToEnd : Obligations.HardResetRunsToEnd := by
  intro s hcan hg
  have hrun : exec .hardReset s = runMicros (.row .hardReset) (emitAll traceHardReset) (begin (.row .hardReset) s) :=
    execOp_runs (op := .row .hardReset) hcan hg rfl
  rw [hrun, runMicros_emitAll_of_txCount_zero _ rfl, complete_emitted _ _ rfl]
  rfl

/-! ## Bare commands (R141 to R143) -/

/-- Settles O16: the program is the bare command and the wait. -/
theorem softResetRunsToEnd : Obligations.SoftResetRunsToEnd := by
  intro s hrun
  exact exec_emitAll (i := .softReset) (es := traceCommand 0x01 ++ [.wait 150]) hrun rfl rfl rfl

/-- Settles O17: each program is the transaction of its enter or exit opcode. -/
theorem sleepAndInversionRunToEnd : Obligations.SleepAndInversionRunToEnd := by
  intro s hrun
  exact ⟨exec_traceCommand hrun rfl rfl rfl, exec_traceCommand hrun rfl rfl rfl, exec_traceCommand hrun rfl rfl rfl,
    exec_traceCommand hrun rfl rfl rfl⟩

/-! ## Masked operands (R146, R147) -/

/-- A request whose check and program are a row's does what the row does, also where its operands do not
fit the descriptor (R101). -/
theorem execRequest_eq_exec {r : Request} {i : Instr} {s : State} (hg : s.grain = .operation)
    (hinit : isInitialize (.row i) = isInitialize (.call r))
    (hv : violation i s.cfg s.latches = requestViolation r s.cfg s.latches)
    (hp : program i s.cfg s.payload = requestProgram r s.cfg) : execRequest r s = exec i s := by
  rw [exec_eq_accept, hv, hp]
  exact (accept_congr_op hinit (awaitPayload_notMem_requestProgram r s.cfg) _ hg).symm

/-- Settles O18: the byte is the mask of the operand's low eight bits, which is the mask of the operand. -/
theorem setColorModeRunsToEnd : Obligations.SetColorModeRunsToEnd := by
  intro s hrun
  have hbyte (mode : Byte) : exec (.setColorMode mode) s =
      .next { closed s (traceCommandData 0x3A [mode &&& 0x77#8]) with pinDc := true } :=
    exec_traceCommandData hrun rfl rfl rfl
  refine ⟨hbyte, fun mode => ?_⟩
  rw [execRequest_eq_exec (i := .setColorMode (BitVec.ofNat 8 mode)) hrun.2.1 rfl rfl rfl, hbyte, BitVec.ofNat_and]

/-- The entry of the table that the low three bits select (R147, R148). -/
theorem orientEntry_eq_tableByte (t : OrientTable) (orientation : Byte) :
    orientEntry t orientation = tableByte t orientation.toNat := by
  have hmask : (orientation &&& 7#8).toNat = orientation.toNat % 8 :=
    Nat.and_two_pow_sub_one_eq_mod orientation.toNat 3
  have hlt : orientation.toNat % 8 < 8 := Nat.mod_lt _ (by decide)
  rw [orientEntry, tableByte, hmask]
  interval_cases orientation.toNat % 8 <;> rfl

theorem tableByte_toNat_ofNat (t : OrientTable) (n : Nat) : tableByte t (BitVec.ofNat 8 n).toNat = tableByte t n := by
  have hmod : n % 2 ^ 8 % 8 = n % 8 := Nat.mod_mod_of_dvd n (by decide)
  rw [tableByte, BitVec.toNat_ofNat, hmod, tableByte]

/-- Settles O19: the byte is the entry the operand modulo 8 selects, and the low eight bits of the operand
select the same entry. -/
theorem setMemoryAccessModeRunsToEnd : Obligations.SetMemoryAccessModeRunsToEnd := by
  intro s isBgr hrun
  have hbyte (orientation : Byte) : exec (.setMemoryAccessMode orientation isBgr) s =
      .next { closed s (traceCommandData 0x36
          [tableByte s.cfg.orientTable orientation.toNat ||| (if isBgr then 0x08#8 else 0x00#8)]) with
        pinDc := true } := by
    rw [← orientEntry_eq_tableByte]
    exact exec_traceCommandData hrun rfl rfl rfl
  refine ⟨hbyte, fun orientation => ?_⟩
  rw [execRequest_eq_exec (i := .setMemoryAccessMode (BitVec.ofNat 8 orientation) isBgr) hrun.2.1 rfl rfl rfl, hbyte,
    tableByte_toNat_ofNat]

end Sys2Proof.Machine
end

section
/-! SUPPORT. The state a program that nothing stops leaves, in full: AW holds the last window the program
writes (10_state.md R26), the work counters hold what it writes to them (R29). -/

namespace Sys2Proof.Machine

/-! ## What a program writes between its events (R26, R29) -/

/-- The work counters after one micro step. -/
def workOf : Micro → Work → Work
  | .remaining n, w => { w with remaining := n }
  | .cursor chari cur, w => { w with chari := chari, cur := cur }
  | .glyphPixel _ _ row col, w => { w with row := row, col := col }
  | .emit _, w => w
  | .columnPayload, w => w
  | .rowPayload, w => w
  | .window _ _ _ _, w => w
  | .awaitPayload, w => w

/-- The work counters after a program. -/
def workAfter (ms : List Micro) (w : Work) : Work := ms.foldl (fun w m => workOf m w) w

theorem workAfter_append (ms ns : List Micro) (w : Work) :
    workAfter (ms ++ ns) w = workAfter ns (workAfter ms w) := List.foldl_append

theorem workAfter_emitAll (es : List Event) (w : Work) : workAfter (emitAll es) w = w := by
  induction es with
  | nil => rfl
  | cons e es ih => exact ih

theorem lastWindow_append (c : Cfg) (ms ns : List Micro) :
    lastWindow c (ms ++ ns) = (lastWindow c ns).or (lastWindow c ms) := by
  induction ms with
  | nil => simp [lastWindow]
  | cons m ms ih => cases h : lastWindow c ns <;> simp [lastWindow, ih, h]

theorem lastWindow_emitAll (c : Cfg) (es : List Event) : lastWindow c (emitAll es) = none := by
  induction es with
  | nil => rfl
  | cons e es ih =>
    refine (lastWindow_append c [.emit e] (emitAll es)).trans ?_
    rw [ih]
    rfl

/-- The state with the writes of a program between its events made. -/
def writtenBy (ms : List Micro) (s : State) : State :=
  worked s ((lastWindow s.cfg ms).getD s.aw) ((lastWindow s.cfg ms).isSome || s.awValid) (workAfter ms s.work)

theorem writtenBy_cons (m : Micro) (ms : List Micro) (s : State) :
    writtenBy (m :: ms) s = writtenBy ms (writtenBy [m] s) := by
  cases hms : lastWindow s.cfg ms <;> simp [writtenBy, worked, workAfter, lastWindow, hms]

/-- Events and the writes between them touch different registers. -/
theorem writtenBy_emitted (ms : List Micro) (es : List Event) (s : State) :
    writtenBy ms (emitted es s) = emitted es (writtenBy ms s) := by
  induction es generalizing s with
  | nil => rfl
  | cons e es ih =>
    rw [emitted, ih, emitted]
    cases e <;> rfl

/-! ## The run of a program that nothing stops -/

/-- A micro step that goes on makes its write and emits its event. -/
theorem settleWait_of_perform_go {m : Micro} {s s' : State} (ht : s.timer = 0) (h : perform m s = .go s') :
    settleWait s' = emitted (eventOf s.aw m).toList (writtenBy [m] s) := by
  cases m with
  | emit e => rw [emit_go h]; rfl
  | columnPayload => rw [emitPosition_go h]; rfl
  | rowPayload => rw [emitPosition_go h]; rfl
  | window x0 y0 x1 y1 => rw [openWindow_go h]; exact settleWait_of_timer_zero (s := writeWindow x0 y0 x1 y1 s) ht
  | glyphPixel x y row col =>
    rw [openWindow_go (s := pixelReached row col s) h]
    exact settleWait_of_timer_zero (s := writtenBy [.glyphPixel x y row col] s) ht
  | remaining n =>
    rw [← Progress.go.inj h]
    exact settleWait_of_timer_zero (s := writtenBy [.remaining n] s) ht
  | cursor chari cur =>
    rw [← Progress.go.inj h]
    exact settleWait_of_timer_zero (s := writtenBy [.cursor chari cur] s) ht
  | awaitPayload => cases h

theorem emitted_aw (es : List Event) (s : State) : (emitted es s).aw = s.aw := by
  induction es generalizing s with
  | nil => rfl
  | cons e es ih => simp [emitted, ih]

theorem emitted_awValid (es : List Event) (s : State) : (emitted es s).awValid = s.awValid := by
  induction es generalizing s with
  | nil => rfl
  | cons e es ih => simp [emitted, ih]

/-- The run of a program that begins with a part that nothing stops, with AW and the work counters named:
the writes and the events of that part are made, then the rest runs. -/
theorem runMicros_append_writtenBy (op : Op) {ms : List Micro} (ns : List Micro) {s : State}
    (hok : AnswersOk s.transport) (ht : s.timer = 0) (hpass : ms.all (passes s.cfg) = true)
    (hread : readsWindowFirst ms = true → s.awValid = true) :
    runMicros op (ms ++ ns) s = runMicros op ns (emitted (programEvents s.cfg s.aw ms) (writtenBy ms s)) := by
  induction ms generalizing s with
  | nil => rfl
  | cons m ms ih =>
    obtain ⟨hm, hms⟩ : passes s.cfg m = true ∧ ms.all (passes s.cfg) = true := by simpa using hpass
    obtain ⟨s', hgo⟩ := perform_of_passes hok hm hread
    have hread' : readsWindowFirst ms = true → (writtenBy [m] s).awValid = true := by
      intro h
      cases hw : windowOf s.cfg m with
      | none => simpa [writtenBy, worked, lastWindow, hw] using hread (readsWindowFirst_cons hw h)
      | some w => simp [writtenBy, worked, lastWindow, hw]
    have hcfg : (emitted (eventOf s.aw m).toList (writtenBy [m] s)).cfg = s.cfg := emitted_cfg _ _
    have haw : (emitted (eventOf s.aw m).toList (writtenBy [m] s)).aw = (windowOf s.cfg m).getD s.aw :=
      emitted_aw _ _
    have hrest := ih (s := emitted (eventOf s.aw m).toList (writtenBy [m] s))
      (emitted_ok _ (writtenBy [m] s) hok) (emitted_timer (s := writtenBy [m] s) ht) (hcfg.symm ▸ hms)
      (by rwa [emitted_awValid])
    rw [hcfg, haw, writtenBy_emitted, ← emitted_append, ← writtenBy_cons] at hrest
    rw [List.cons_append, runMicros_go op m _ s s' hgo, settleWait_of_perform_go ht hgo]
    exact hrest

/-- An operation of the opcode table that passes its checks and does not set READY (R31), with its payload
supplied, its lit pixels in the panel and every TX answered ok: the whole state it leaves. -/
theorem exec_runs_to_end {i : Instr} {s : State} (hrun : CanRun s) (hv : violation i s.cfg s.latches = none)
    (hp : payloadNeeded i ≤ s.payload.length) (hg : textGeometryOk i s.cfg s.payload = true)
    (hi : isInitialize (.row i) = false) :
    exec i s = .next
      { closed s (expand i s.cfg s.payload) with
        pinCs := (pinsAfter (pinsOf s) (expand i s.cfg s.payload)).cs
        pinDc := (pinsAfter (pinsOf s) (expand i s.cfg s.payload)).dc
        pinRst := (pinsAfter (pinsOf s) (expand i s.cfg s.payload)).rst
        aw := (lastWindow s.cfg (program i s.cfg s.payload)).getD s.aw
        work := workAfter (program i s.cfg s.payload) s.work } := by
  have hemits := emits_program i s.cfg s.payload hp
  have h := runMicros_append_writtenBy (.row i) [] (s := begin (.row i) s) hrun.2.2 rfl
    (passes_program hrun.1.2 hv hp hg) (by simp [hemits.writesFirst])
  rw [List.append_nil, begin_cfg, hemits.events, runMicros_nil, complete_emitted _ _ rfl] at h
  rw [exec_runs hrun hv, h]
  simp [writtenBy, worked, closed, begin, hi, readyAtCompletion, readyAtAcceptance, pinsOf]

/-- The same, with the trace, the data/command line, AW and the work counters given by name. -/
theorem exec_leaves {i : Instr} {s : State} {es : List Event} {dc : Bool} {aw : AddressWindow} {work : Work}
    (hrun : CanRun s) (hv : violation i s.cfg s.latches = none) (hp : payloadNeeded i ≤ s.payload.length)
    (hg : textGeometryOk i s.cfg s.payload = true) (hi : isInitialize (.row i) = false)
    (hes : expand i s.cfg s.payload = es)
    (hpins : pinsAfter (pinsOf s) es = { cs := false, dc := dc, rst := s.pinRst })
    (haw : lastWindow s.cfg (program i s.cfg s.payload) = some aw)
    (hwork : workAfter (program i s.cfg s.payload) s.work = work) :
    exec i s = .next { closed s es with pinDc := dc, aw := aw, work := work } := by
  rw [exec_runs_to_end hrun hv hp hg hi, hes, hpins, haw, hwork]
  rfl

end Sys2Proof.Machine
end

section
/-! SUPPORT. The window and the operations that stream pixels (42_window_pixel.md R160 to R170): their
checks, their traces event by event, what they write to AW and to REMAINING, and the packing of a colour. -/

namespace Sys2Proof.Machine

/-! ## The checks (R163, R166) -/

theorem inWindow_iff {c : Cfg} {x0 y0 x1 y1 : Int} :
    inWindow c x0 y0 x1 y1 = true ↔
      0 ≤ x0 ∧ x0 ≤ x1 ∧ x1 < c.width ∧ 0 ≤ y0 ∧ y0 ≤ y1 ∧ y1 < c.height := by
  simp [inWindow, and_assoc]

theorem windowViolation_of_inside {c : Cfg} {x0 y0 x1 y1 : Int}
    (h : 0 ≤ x0 ∧ x0 ≤ x1 ∧ x1 < c.width ∧ 0 ≤ y0 ∧ y0 ≤ y1 ∧ y1 < c.height) :
    windowViolation c x0 y0 x1 y1 = none :=
  if_pos (inWindow_iff.mpr h)

theorem windowViolation_of_outside {c : Cfg} {x0 y0 x1 y1 : Int}
    (h : ¬(0 ≤ x0 ∧ x0 ≤ x1 ∧ x1 < c.width ∧ 0 ≤ y0 ∧ y0 ≤ y1 ∧ y1 < c.height)) :
    windowViolation c x0 y0 x1 y1 = some ⟨.invalidGeometry, geometryInfo x0 y0⟩ :=
  if_neg (mt inWindow_iff.mp h)

theorem rectangleViolation_of_inside {c : Cfg} {x y w h : Int}
    (hr : 1 ≤ w ∧ 1 ≤ h ∧ 0 ≤ x ∧ x + w ≤ c.width ∧ 0 ≤ y ∧ y + h ≤ c.height) :
    rectangleViolation c x y w h = none := by
  obtain ⟨hw, hh, hcorners⟩ := hr
  refine if_pos ⟨hw, hh, inWindow_iff.mpr ?_⟩
  omega

theorem rectangleViolation_of_outside {c : Cfg} {x y w h : Int}
    (hr : ¬(1 ≤ w ∧ 1 ≤ h ∧ 0 ≤ x ∧ x + w ≤ c.width ∧ 0 ≤ y ∧ y + h ≤ c.height)) :
    rectangleViolation c x y w h = some ⟨.invalidGeometry, geometryInfo x y⟩ := by
  refine if_neg ?_
  rw [inWindow_iff]
  omega

/-- The rectangle is checked before the buffer's length (R225). -/
theorem blitViolation_of_outside {c : Cfg} {x y w h : Int} (length : Nat)
    (hr : ¬(1 ≤ w ∧ 1 ≤ h ∧ 0 ≤ x ∧ x + w ≤ c.width ∧ 0 ≤ y ∧ y + h ≤ c.height)) :
    blitViolation c x y w h length = some ⟨.invalidGeometry, geometryInfo x y⟩ := by
  simp only [blitViolation, rectangleViolation_of_outside hr]

theorem geometryInfo_toNat (x y : U16) : geometryInfo x.toNat y.toNat = x ++ y := by
  simp [geometryInfo]

/-- An operation whose check is InvalidGeometry takes that fault and changes nothing else (R221, R224). -/
theorem execOp_invalidGeometry {op : Op} {s : State} {x y : Int} (hcan : CanAccept s)
    (hv : opViolation op s.cfg s.latches = some ⟨.invalidGeometry, geometryInfo x y⟩) :
    execOp op s = .next (faultedAtAcceptance s 2 (geometryInfo x y)) := execOp_raises hcan hv

/-- Settles O27: in either form the check of the window or the rectangle fails, and FAULT_INFO is its corner. -/
theorem windowsOutsideThePanelFault : Obligations.WindowsOutsideThePanelFault := by
  intro s hcan
  have hrow (i : Instr) (x y : U16)
      (hv : violation i s.cfg s.latches = some ⟨.invalidGeometry, geometryInfo x.toNat y.toNat⟩) :
      exec i s = .next (faultedAtAcceptance s 2 (x ++ y)) := by
    rw [← geometryInfo_toNat]
    exact execOp_invalidGeometry (op := .row i) hcan hv
  have hcall (r : Request) (x y : Int)
      (hv : requestViolation r s.cfg s.latches = some ⟨.invalidGeometry, geometryInfo x y⟩) :
      execRequest r s = .next (faultedAtAcceptance s 2 (BitVec.ofInt 16 x ++ BitVec.ofInt 16 y)) :=
    execOp_invalidGeometry (op := .call r) hcan hv
  refine ⟨fun x0 y0 x1 y1 hout => hrow _ x0 y0 (windowViolation_of_outside (by omega)),
    fun x y color hout => hrow _ x y (windowViolation_of_outside (by omega)),
    fun x y w h hout => ⟨fun color => hrow _ x y (rectangleViolation_of_outside (by omega)),
      fun plen => hrow _ x y (blitViolation_of_outside _ (by omega))⟩,
    fun x0 y0 x1 y1 hout => hcall _ x0 y0 (windowViolation_of_outside hout),
    fun x y color hout => hcall _ x y (windowViolation_of_outside (by omega)),
    fun x y w h hout => ⟨fun color => hcall _ x y (rectangleViolation_of_outside hout),
      fun buffer => hcall _ x y (blitViolation_of_outside _ hout)⟩⟩

/-! ## The traces, event by event (R164, R167) -/

/-- The bytes of a coordinate on the wire are the low 16 bits of the sum with its offset (R60, R82). -/
theorem be16_physical (x offset : Nat) : be16 (physical x offset) = bytes16 (x + offset) := by
  have hnat : (physical x offset).toNat = (x + offset) % 65536 := by
    simp only [physical, BitVec.toNat_ofInt]
    omega
  have hhigh : (x + offset) % 65536 / 256 % 256 = (x + offset) / 256 % 256 := by omega
  have hlow : (x + offset) % 65536 % 256 = (x + offset) % 256 := by omega
  rw [← bytes16_toNat, hnat]
  simp only [bytes16, ← BitVec.toNat_inj, List.cons.injEq, BitVec.toNat_ofNat, Nat.reducePow, hhigh, hlow, and_self]

theorem expandSetAddressWindow_eq_traceWindow (c : Cfg) (x0 y0 x1 y1 : Nat) :
    expandSetAddressWindow c x0 y0 x1 y1 = traceWindow c x0 y0 x1 y1 := by
  simp only [expandSetAddressWindow, be16_physical]
  rfl

theorem expandRectangleWindow_eq_traceWindow (c : Cfg) (x y : Nat) {w h : Nat} (hw : 1 ≤ w) (hh : 1 ≤ h) :
    expandRectangleWindow c x y w h = traceWindow c x y (x + w - 1) (y + h - 1) := by
  have hx : (x : Int) + w - 1 = (x + w - 1 : Nat) := by omega
  have hy : (y : Int) + h - 1 = (y + h - 1 : Nat) := by omega
  rw [expandRectangleWindow, hx, hy, expandSetAddressWindow_eq_traceWindow]

theorem expandDrawPixel_eq_tracePixel (c : Cfg) (x y : Nat) (color : U16) :
    expandDrawPixel c x y color = tracePixel c x y color := by
  rw [expandDrawPixel, expandSetAddressWindow_eq_traceWindow, txn_data, tracePixel, bytes16_toNat]

theorem rep_be16 (color : U16) (n : Nat) : rep (be16 color) n = pixelBytes color n := by
  induction n with
  | zero => rfl
  | succ n ih => rw [rep, ih, pixelBytes, pixelBytes, List.replicate_succ, List.flatten_cons, bytes16_toNat]

theorem batch_eq_traceData (color : U16) (n : Nat) : batch color n = traceData (pixelBytes color n) := by
  rw [batch, txn_data, rep_be16]

/-- The model asks for a partial batch when units remain, the rule when their number is not 0: the same (R167). -/
theorem expandFill_eq_traceFill (c : Cfg) (x y : Nat) {w h : Nat} (color : U16) (hw : 1 ≤ w) (hh : 1 ≤ h) :
    expandFill c x y w h color = traceFill c x y w h color := by
  have hn : ((w : Int) * h).toNat = w * h := Int.toNat_natCast (w * h)
  simp only [expandFill, traceFill, fillBatches, expandRectangleWindow_eq_traceWindow c x y hw hh, hn,
    batch_eq_traceData, Nat.pos_iff_ne_zero, ite_not, List.append_assoc]

/-! ## The batches of a fill (R167) -/

/-- The sizes of the batches of a fill of `n` pixel units, in order. -/
def batchSizes (chunk n : Nat) : List Nat :=
  List.replicate (n / chunk) chunk ++ if 0 < n % chunk then [n % chunk] else []

theorem fillBatches_eq_flatMap (chunk : Nat) (color : U16) (n : Nat) :
    fillBatches chunk color n = (batchSizes chunk n).flatMap (batch color) := by
  have hpartial : (if 0 < n % chunk then batch color (n % chunk) else []) =
      (if 0 < n % chunk then [n % chunk] else []).flatMap (batch color) := by
    split <;> simp
  rw [fillBatches, batchSizes, List.flatMap_append, ← hpartial, List.flatMap_replicate]

/-- The batches hold the `n` units of the fill, whatever the chunk size. -/
theorem sum_batchSizes (chunk n : Nat) : (batchSizes chunk n).sum = n := by
  have hpartial : (if 0 < n % chunk then [n % chunk] else []).sum = n % chunk := by
    split
    · exact List.sum_singleton
    · next hzero => exact (Nat.eq_zero_of_not_pos hzero).symm
  rw [batchSizes, List.sum_append, hpartial, List.sum_replicate, smul_eq_mul, Nat.mul_comm, Nat.div_add_mod]

theorem batchSizes_ne_nil (chunk : Nat) {n : Nat} (h : 1 ≤ n) : batchSizes chunk n ≠ [] := by
  intro hnil
  have hsum := sum_batchSizes chunk n
  rw [hnil, List.sum_nil] at hsum
  omega

/-! ## The pins a fill leaves (R125) -/

theorem pinsAfter_append (p : Pins) (es fs : List Event) : pinsAfter p (es ++ fs) = pinsAfter (pinsAfter p es) fs := by
  induction es generalizing p with
  | nil => rfl
  | cons e es ih => cases e <;> exact ih _

theorem pinsAfter_traceWindow (p : Pins) (c : Cfg) (x0 y0 x1 y1 : Nat) :
    pinsAfter p (traceWindow c x0 y0 x1 y1) = { cs := false, dc := false, rst := p.rst } := rfl

theorem pinsAfter_batches (p : Pins) (color : U16) {sizes : List Nat} (h : sizes ≠ []) :
    pinsAfter p (sizes.flatMap (batch color)) = { cs := false, dc := true, rst := p.rst } := by
  induction sizes generalizing p with
  | nil => exact absurd rfl h
  | cons n sizes ih =>
    rw [List.flatMap_cons, pinsAfter_append, batch_eq_traceData, pinsAfter_traceData]
    cases sizes with
    | nil => rfl
    | cons m sizes => exact ih _ (List.cons_ne_nil m sizes)

theorem pinsAfter_traceFill (p : Pins) (c : Cfg) (x y : Nat) {w h : Nat} (color : U16) (hw : 1 ≤ w) (hh : 1 ≤ h) :
    pinsAfter p (traceFill c x y w h color) = { cs := false, dc := true, rst := p.rst } := by
  have hn : 1 ≤ ((w : Int) * h).toNat := by
    rw [← Int.natCast_mul, Int.toNat_natCast]
    exact Nat.mul_pos hw hh
  rw [← expandFill_eq_traceFill c x y color hw hh, expandFill, pinsAfter_append,
    expandRectangleWindow_eq_traceWindow c x y hw hh, pinsAfter_traceWindow, fillBatches_eq_flatMap,
    pinsAfter_batches _ color (batchSizes_ne_nil _ hn)]

/-! ## What a fill writes to AW and to REMAINING (R26, R29) -/

theorem lastWindow_programFullBatches (c : Cfg) (chunk : Nat) (color : U16) (q total : Nat) :
    lastWindow c (programFullBatches chunk color q total) = none := by
  induction q generalizing total with
  | zero => rfl
  | succ q ih =>
    rw [programFullBatches, lastWindow_append, ih]
    rfl

theorem lastWindow_programFill (c : Cfg) (x y w h : Int) (color : U16) :
    lastWindow c (programFill c x y w h color) = some (windowLatches c x y (x + w - 1) (y + h - 1)) := by
  have hbatches (chunk n : Nat) : lastWindow c (programBatches chunk color n) = none := by
    rw [programBatches, lastWindow_append, lastWindow, lastWindow_programFullBatches]
    split <;> rfl
  rw [programFill, lastWindow_append, hbatches]
  rfl

/-- Each full batch takes `chunk` from REMAINING. -/
theorem workAfter_programFullBatches (chunk : Nat) (color : U16) (q total : Nat) (w : Work) :
    workAfter (programFullBatches chunk color q total) { w with remaining := total } =
      { w with remaining := total - q * chunk } := by
  induction q generalizing total with
  | zero => simp [programFullBatches, workAfter]
  | succ q ih =>
    have hleft : total - chunk - q * chunk = total - (q + 1) * chunk := by
      rw [Nat.succ_mul]
      omega
    rw [programFullBatches, workAfter_append, ← hleft]
    exact ih (total - chunk)

/-- What the full batches leave of REMAINING is the partial batch, and that takes it to 0. -/
theorem workAfter_programBatches (chunk : Nat) (color : U16) (n : Nat) (w : Work) :
    workAfter (programBatches chunk color n) w = { w with remaining := 0 } := by
  have hleft : n - n / chunk * chunk = n % chunk := by
    have := Nat.div_add_mod' n chunk
    omega
  have hfull : workAfter (.remaining n :: programFullBatches chunk color (n / chunk) n) w =
      { w with remaining := n % chunk } := by
    rw [← hleft]
    exact workAfter_programFullBatches chunk color (n / chunk) n w
  rw [programBatches, workAfter_append, hfull]
  split
  · rfl
  · next hzero =>
    rw [Nat.eq_zero_of_not_pos hzero]
    rfl

theorem workAfter_programFill (c : Cfg) (x y w h : Int) (color : U16) (work : Work) :
    workAfter (programFill c x y w h color) work = { work with remaining := 0 } := by
  rw [programFill, workAfter_append]
  exact workAfter_programBatches _ _ _ work

/-! ## The operations run to their end (R164 to R170) -/

/-- Settles O21: the program writes one window and emits its three transactions. -/
theorem setAddressWindowRunsToEnd : Obligations.SetAddressWindowRunsToEnd := by
  intro s x0 y0 x1 y1 hrun hx hx1 hy hy1
  exact exec_leaves (i := .setAddressWindow x0 y0 x1 y1) hrun (windowViolation_of_inside (by omega)) (Nat.zero_le _)
    rfl rfl (expandSetAddressWindow_eq_traceWindow _ _ _ _ _) rfl rfl rfl

/-- Settles O23: the window of one pixel, then one pixel unit. -/
theorem drawPixelRunsToEnd : Obligations.DrawPixelRunsToEnd := by
  intro s x y color hrun hx hy
  exact exec_leaves (i := .drawPixel x y color) hrun (windowViolation_of_inside (by omega)) (Nat.zero_le _)
    rfl rfl (expandDrawPixel_eq_tracePixel _ _ _ _) rfl rfl rfl

/-- Settles O24: the window of the rectangle, then its batches, which count REMAINING down to 0. -/
theorem fillRectangleRunsToEnd : Obligations.FillRectangleRunsToEnd := by
  intro s x y w h color hrun hw hh hx hy
  exact exec_leaves (i := .fillRectangle x y w h color) hrun (rectangleViolation_of_inside (by omega))
    (Nat.zero_le _) rfl rfl (expandFill_eq_traceFill _ _ _ color hw hh) (pinsAfter_traceFill _ _ _ _ color hw hh)
    (lastWindow_programFill _ _ _ _ _ color) (workAfter_programFill _ _ _ _ _ color _)

/-- Settles O25: a legal configuration has a panel of at least one pixel, and the whole of it is filled. -/
theorem fillScreenRunsToEnd : Obligations.FillScreenRunsToEnd := by
  intro s color hrun
  obtain ⟨hw, hh, -⟩ := (cfgLegal_iff s.cfg).mp hrun.1.2
  have haw := lastWindow_programFill s.cfg 0 0 s.cfg.width s.cfg.height color
  rw [zero_add, zero_add] at haw
  exact exec_leaves (i := .fillScreen color) hrun rfl (Nat.zero_le _) rfl rfl
    (expandFill_eq_traceFill _ 0 0 color hw hh) (pinsAfter_traceFill _ _ 0 0 color hw hh) haw
    (workAfter_programFill _ _ _ _ _ color _)

theorem programBlit_of_le (x y w h : Int) {plen : U32} {payload : List Byte} (hp : plen.toNat ≤ payload.length) :
    programBlit x y w h plen payload =
      programRectangleWindow x y w h ++ emitAll (traceData (payload.take plen.toNat)) := by
  simp only [programBlit, payloadBytes_of_le hp, txn_data]

theorem blitViolation_of_inside {c : Cfg} {x y w h : Int} {length : Nat}
    (hr : 1 ≤ w ∧ 1 ≤ h ∧ 0 ≤ x ∧ x + w ≤ c.width ∧ 0 ≤ y ∧ y + h ≤ c.height)
    (hlength : (length : Int) = 2 * w * h) : blitViolation c x y w h length = none := by
  simp only [blitViolation, rectangleViolation_of_inside hr, if_pos hlength]

/-- Settles O26: the window of the rectangle, then the whole buffer in one transaction. -/
theorem blitBufferRunsToEnd : Obligations.BlitBufferRunsToEnd := by
  intro s x y w h plen hrun hw hh hx hy hplen hp
  have hprogram : program (.blitBuffer x y w h plen) s.cfg s.payload =
      programRectangleWindow x.toNat y.toNat w.toNat h.toNat ++ emitAll (traceData (s.payload.take plen.toNat)) :=
    programBlit_of_le _ _ _ _ hp
  have hexpand : expand (.blitBuffer x y w h plen) s.cfg s.payload =
      traceWindow s.cfg x.toNat y.toNat (x.toNat + w.toNat - 1) (y.toNat + h.toNat - 1) ++
        traceData (s.payload.take plen.toNat) :=
    congrArg (· ++ traceData _) (expandRectangleWindow_eq_traceWindow _ _ _ hw hh)
  refine exec_leaves hrun (blitViolation_of_inside (by omega) (by exact_mod_cast hplen)) hp rfl rfl hexpand ?_ ?_ ?_
  · rw [pinsAfter_append, pinsAfter_traceWindow, pinsAfter_traceData]
    rfl
  · rw [hprogram, lastWindow_append, lastWindow_emitAll]
    rfl
  · rw [hprogram, workAfter_append, workAfter_emitAll]
    rfl

/-! ## The packing of a colour (R160) -/

/-- A mask that drops the low `k` bits of a byte leaves the multiple of `2 ^ k` below it. -/
theorem toNat_and_allOnes_shiftLeft (v : Byte) (k : Nat) :
    (v &&& BitVec.allOnes 8 <<< k).toNat = v.toNat / 2 ^ k * 2 ^ k := by
  have hle : v.toNat / 2 ^ k * 2 ^ k ≤ v.toNat := Nat.div_mul_le_self _ _
  rw [← BitVec.shiftLeft_ushiftRight, BitVec.toNat_shiftLeft, BitVec.toNat_ushiftRight, Nat.shiftRight_eq_div_pow,
    Nat.shiftLeft_eq, Nat.mod_eq_of_lt (hle.trans_lt v.isLt)]

theorem toNat_pack565 (r g b : Byte) : (pack565 r g b).toNat =
    ((r.toNat &&& 0xF8) <<< 8) ||| ((g.toNat &&& 0xFC) <<< 3) ||| (b.toNat >>> 3) := by
  have hr : (r.toNat &&& 0xF8) <<< 8 < 65536 := by
    have : r.toNat &&& 0xF8 ≤ 0xF8 := Nat.and_le_right
    omega
  have hg : (g.toNat &&& 0xFC) <<< 3 < 65536 := by
    have : g.toNat &&& 0xFC ≤ 0xFC := Nat.and_le_right
    omega
  have hwide (v : Byte) : (v.setWidth 16).toNat = v.toNat := BitVec.toNat_setWidth_of_le (by decide)
  simp only [pack565, BitVec.toNat_or, BitVec.toNat_shiftLeft, BitVec.toNat_ushiftRight, BitVec.toNat_and, hwide,
    BitVec.toNat_ofNat, Nat.reducePow, Nat.reduceMod, Nat.mod_eq_of_lt hr, Nat.mod_eq_of_lt hg]

/-- Fields side by side do not overlap, so that putting them together is a sum (R160). -/
theorem or_fields_eq_sum (r : Nat) {g b : Nat} (hg : g < 2 ^ 6) (hb : b < 2 ^ 5) :
    ((r * 8) <<< 8) ||| ((g * 4) <<< 3) ||| b = r * 2048 + g * 32 + b := by
  have hr : (r * 8) <<< 8 = r <<< 11 := by omega
  have hrg : r <<< 11 ||| (g * 4) <<< 3 = (r * 64 + g) <<< 5 := by
    rw [← Nat.shiftLeft_add_eq_or_of_lt (by omega)]
    omega
  rw [hr, hrg, ← Nat.shiftLeft_add_eq_or_of_lt hb]
  omega

/-- Settles O29: each mask drops the bits the division drops, and the fields kept do not overlap. -/
theorem pack565TruncatesEachChannel : Obligations.Pack565TruncatesEachChannel := by
  intro r g b
  have hr : r.toNat &&& 0xF8 = r.toNat / 8 * 8 := toNat_and_allOnes_shiftLeft r 3
  have hg : g.toNat &&& 0xFC = g.toNat / 4 * 4 := toNat_and_allOnes_shiftLeft g 2
  refine ⟨toNat_pack565 r g b, ?_⟩
  rw [toNat_pack565, hr, hg, Nat.shiftRight_eq_div_pow]
  exact or_fields_eq_sum _ (by omega) (by omega)

end Sys2Proof.Machine
end

section
/-! SUPPORT. The panel's view of a fill (40_framing.md R127, 42_window_pixel.md R168): the batches show as one
run of data, whatever their sizes. -/

namespace Sys2Proof.Machine

/-! ## The panel's view (R127) -/

/-- What the panel sees of a wire depends on what follows through the view of what follows alone. -/
theorem joinWire_append_congr (ws : List WireItem) {vs us : List WireItem} (h : joinWire vs = joinWire us) :
    joinWire (ws ++ vs) = joinWire (ws ++ us) := by
  induction ws with
  | nil => exact h
  | cons w ws ih =>
    cases w with
    | byte dc b => cases dc <;> simp only [List.cons_append, joinWire, ih]
    | _ => simp only [List.cons_append, joinWire, ih]

theorem panelView_append_congr (p : Pins) (trace : List TraceEntry) {es fs : List TraceEntry}
    (h : ∀ q, panelView q es = panelView q fs) : panelView p (trace ++ es) = panelView p (trace ++ fs) := by
  induction trace generalizing p with
  | nil => exact h p
  | cons e trace ih =>
    cases e with
    | failed bs sent => exact joinWire_append_congr _ (ih p)
    | done e =>
      cases e with
      | tx bs => exact joinWire_append_congr _ (ih p)
      | dc l => exact ih _
      | wait n => exact congrArg (PanelItem.wait n :: ·) (ih p)
      | cs a =>
        simp only [panelView, List.cons_append, wireView] at ih ⊢
        split
        · exact ih p
        · exact ih _
      | rst l =>
        simp only [panelView, List.cons_append, wireView] at ih ⊢
        split
        · exact ih p
        · exact congrArg (PanelItem.rst l :: ·) (ih _)

/-- A window ends with a command byte, which joins nothing (R127, R164). -/
theorem panelView_window_append (p : Pins) (c : Cfg) (x0 y0 x1 y1 : Int) (es : List Event) :
    panelView p (done (expandSetAddressWindow c x0 y0 x1 y1 ++ es)) =
      panelView p (done (expandSetAddressWindow c x0 y0 x1 y1)) ++
        panelView { cs := false, dc := false, rst := p.rst } (done es) := by
  obtain ⟨cs, dc, rst⟩ := p
  cases cs <;> rfl

theorem joinWire_data_append (bs : List Byte) (ws : List WireItem) :
    joinWire (bs.map (WireItem.byte true) ++ ws) = bs.foldr joinData (joinWire ws) := by
  induction bs with
  | nil => rfl
  | cons b bs ih => exact congrArg (joinData b) ih

/-- A transaction of data shows as its bytes alone (R127). -/
theorem panelView_traceData_append (p : Pins) (bs : List Byte) (es : List Event) :
    panelView p (done (traceData bs ++ es)) =
      bs.foldr joinData (panelView { cs := false, dc := true, rst := p.rst } (done es)) := by
  obtain ⟨cs, dc, rst⟩ := p
  cases cs <;> exact joinWire_data_append bs _

theorem foldr_joinData_nil {bs : List Byte} (h : bs ≠ []) : bs.foldr joinData [] = [.data bs] := by
  induction bs with
  | nil => exact absurd rfl h
  | cons b bs ih =>
    cases bs with
    | nil => rfl
    | cons b' bs => rw [List.foldr_cons, ih (List.cons_ne_nil b' bs)]; rfl

theorem pixelBytes_add (color : U16) (m n : Nat) :
    pixelBytes color (m + n) = pixelBytes color m ++ pixelBytes color n := by
  simp only [pixelBytes, List.replicate_add, List.flatten_append]

theorem pixelBytes_ne_nil (color : U16) {n : Nat} (h : 0 < n) : pixelBytes color n ≠ [] := by
  obtain ⟨m, rfl⟩ := Nat.exists_eq_succ_of_ne_zero h.ne'
  exact List.cons_ne_nil _ _

/-- Batches show as one run of data: the units of all of them together (R127, R168). -/
theorem panelView_batches (p : Pins) (color : U16) (sizes : List Nat) :
    panelView p (done (sizes.flatMap (batch color))) = (pixelBytes color sizes.sum).foldr joinData [] := by
  induction sizes generalizing p with
  | nil => rfl
  | cons n sizes ih =>
    rw [List.flatMap_cons, batch_eq_traceData, panelView_traceData_append, ih, List.sum_cons, pixelBytes_add,
      List.foldr_append]

theorem panelView_fillBatches (p : Pins) (chunk : Nat) (color : U16) (n : Nat) :
    panelView p (done (fillBatches chunk color n)) = (pixelBytes color n).foldr joinData [] := by
  rw [fillBatches_eq_flatMap, panelView_batches, sum_batchSizes]

theorem panelView_expandFill (p : Pins) (c : Cfg) (x y w h : Int) (color : U16) :
    panelView p (done (expandFill c x y w h color)) =
      panelView p (done (expandRectangleWindow c x y w h)) ++
        (pixelBytes color (w * h).toNat).foldr joinData [] := by
  rw [expandFill, expandRectangleWindow, panelView_window_append, panelView_fillBatches]

theorem canRun_withChunk {s : State} {n : Nat} (hrun : CanRun s) (hn : 1 ≤ n) : CanRun (withChunk s n) := by
  obtain ⟨hw, hh, hx, hy, -⟩ := (cfgLegal_iff s.cfg).mp hrun.1.2
  exact ⟨⟨hrun.1.1, (cfgLegal_iff _).mpr ⟨hw, hh, hx, hy, hn⟩⟩, hrun.2⟩

/-- The view of what a fillRectangle adds to the trace, in terms of the state without its chunk size. -/
theorem panelView_fillRectangle_withChunk {s t : State} {n : Nat} {x y w h color : U16} (p : Pins) (hrun : CanRun s)
    (hn : 1 ≤ n) (ht : exec (.fillRectangle x y w h color) (withChunk s n) = .next t) :
    panelView p t.trace =
      panelView p (s.trace ++ if rectangleViolation s.cfg x.toNat y.toNat w.toNat h.toNat = none then
        done (expandFill s.cfg x.toNat y.toNat w.toNat h.toNat color) else []) := by
  have hrun' := canRun_withChunk hrun hn
  cases hv : rectangleViolation s.cfg x.toNat y.toNat w.toNat h.toNat with
  | some v =>
    obtain rfl := Host.Outcome.next.inj
      ((execOp_raises (op := .row (.fillRectangle x y w h color)) hrun'.1 hv).symm.trans ht)
    simp [withChunk]
  | none =>
    obtain rfl := Host.Outcome.next.inj
      ((exec_runs_to_end (i := .fillRectangle x y w h color) hrun' hv (Nat.zero_le _) rfl rfl).symm.trans ht)
    refine panelView_append_congr p s.trace fun q => ?_
    rw [if_pos rfl]
    exact (panelView_expandFill q _ _ _ _ _ color).trans (panelView_expandFill q s.cfg _ _ _ _ color).symm

/-- Settles O30: either view is that of the state without its chunk size, and the units of a fill, at least
one, are one run of data. -/
theorem chunkSizeIsInvisibleToThePanel : Obligations.ChunkSizeIsInvisibleToThePanel := by
  refine ⟨fun s t u p m n x y w h color hrun hm hn ht hu => ?_, fun c p x y w h color _ hw hh => ?_⟩
  · rw [panelView_fillRectangle_withChunk p hrun hm ht, panelView_fillRectangle_withChunk p hrun hn hu]
  · have hn : ((w : Int) * h).toNat = w * h := Int.toNat_natCast (w * h)
    rw [panelView_expandFill, hn, foldr_joinData_nil (pixelBytes_ne_nil color (Nat.mul_pos hw hh))]

end Sys2Proof.Machine
end

section
/-! SUPPORT. The initialization sequence (43_init.md R190 to R192): its trace as the thirteen steps, what the
fill inside it writes, the state it leaves, and that this state accepts it again. -/

namespace Sys2Proof.Machine

/-! ## The thirteen steps (R190) -/

/-- Steps 1 to 10 and 12 to 13 are the rule's transactions and waits as they stand; step 11 is the fill of the
whole panel. -/
theorem expandInitialize_eq_traceInitialize {c : Cfg} (hw : 1 ≤ c.width) (hh : 1 ≤ c.height) :
    expandInitialize c = traceInitialize c := by
  have hfill : expandFill c 0 0 c.width c.height c.initFillColor = traceFill c 0 0 c.width c.height c.initFillColor :=
    expandFill_eq_traceFill c 0 0 c.initFillColor hw hh
  rw [expandInitialize, hfill, expandInitAfter, ← List.append_assoc]
  rfl

/-- The display-on command is the last transaction, and the pulse of step 1 ends with the reset line high. -/
theorem pinsAfter_traceInitialize (p : Pins) {c : Cfg} (hw : 1 ≤ c.width) (hh : 1 ≤ c.height) :
    pinsAfter p (traceInitialize c) = { cs := false, dc := false, rst := true } := by
  rw [traceInitialize, pinsAfter_append, pinsAfter_append, pinsAfter_append, pinsAfter_traceFill _ c 0 0 _ hw hh]
  rfl

/-- The fill is the only part that writes AW: the whole panel (R26). -/
theorem lastWindow_programInitialize (c : Cfg) :
    lastWindow c (programInitialize c) = some (windowLatches c 0 0 (c.width - 1) (c.height - 1)) := by
  rw [programInitialize, lastWindow_append, lastWindow_append, lastWindow_emitAll, lastWindow_programFill, zero_add,
    zero_add]
  rfl

/-- The fill is the only part that counts: REMAINING down to 0 (R29, notes/assumptions/17). -/
theorem workAfter_programInitialize (c : Cfg) (work : Work) :
    workAfter (programInitialize c) work = { work with remaining := 0 } := by
  rw [programInitialize, workAfter_append, workAfter_append, workAfter_emitAll, workAfter_programFill,
    workAfter_emitAll]

/-! ## The operation run to its end (R31, R190) -/

/-- Nothing stops the run: its writes and its events are made, then it completes. -/
theorem exec_initializePanel {s : State} (hrun : CanRun s) :
    exec .initializePanel s = .next (complete (.row .initializePanel)
      (emitted (expandInitialize s.cfg) (writtenBy (programInitialize s.cfg) (begin (.row .initializePanel) s)))) := by
  have hemits := emits_programInitialize s.cfg
  have h := runMicros_append_writtenBy (.row .initializePanel) [] (s := begin (.row .initializePanel) s) hrun.2.2 rfl
    (passes_programInitialize hrun.1.2) (by simp [hemits.writesFirst])
  rw [List.append_nil, begin_cfg, hemits.events, runMicros_nil] at h
  exact (exec_runs hrun rfl).trans h

/-- Settles O31: the trace, the pins, AW and REMAINING are those of the thirteen steps, and the completion sets
READY. -/
theorem initializeRunsToEnd : Obligations.InitializeRunsToEnd := by
  intro s hrun
  obtain ⟨hw, hh, -⟩ := (cfgLegal_iff s.cfg).mp hrun.1.2
  rw [exec_initializePanel hrun, expandInitialize_eq_traceInitialize hw hh, complete_emitted _ _ rfl,
    pinsAfter_traceInitialize _ hw hh, writtenBy, begin_cfg, lastWindow_programInitialize, workAfter_programInitialize]
  rfl

/-! ## A second run (R192) -/

/-- An operation that has run to its end leaves a block that can run the next. -/
theorem canRun_closed {s : State} (hrun : CanRun s) (es : List Event) : CanRun (closed s es) := by
  obtain ⟨⟨-, hlegal⟩, hg, hok⟩ := hrun
  exact ⟨⟨rfl, hlegal⟩, hg, fun a ha => hok a (List.mem_of_mem_drop ha)⟩

/-- Settles O32: what the first run writes beyond `closed` does not touch what the second needs, and the
acceptance clears READY before any event. -/
theorem initializeCanBeRepeated : Obligations.InitializeCanBeRepeated := by
  refine ⟨fun s hrun => ?_, fun s hcan hg => ?_⟩
  · have hclosed : CanRun (closed s (traceInitialize s.cfg)) := canRun_closed hrun _
    exact ⟨_, _, initializeRunsToEnd s hrun, initializeRunsToEnd _ hclosed, rfl, rfl, done (traceInitialize s.cfg),
      rfl, rfl⟩
  · exact ⟨begin (.row .initializePanel) s, execOp_begins (op := .row .initializePanel) hcan hg rfl, rfl, rfl, rfl⟩

end Sys2Proof.Machine
end

section
/-! SUPPORT. The text operations (44_text.md R200 to R205): the lit pixels a program draws, what they leave of
the pins, AW and the work counters, and the state of a run that ends and of one that meets a pixel outside. -/

namespace Sys2Proof.Machine

/-! ## Lit pixels drawn in order (R201)

A lit pixel stands here as in `textPixels`: the cursor of its cell, then its row and column. -/

/-- The events of lit pixels of cells at row `y`, drawn in order. -/
def pixelEvents (c : Cfg) (y : Nat) (color : U16) (qs : List (Nat × Nat × Nat)) : List Event :=
  qs.flatMap (fun q => tracePixel c (q.1 + q.2.2) (y + q.2.1) color)

/-- The window of a lit pixel of a cell at row `y`. -/
def pixelWindow (c : Cfg) (y : Nat) (q : Nat × Nat × Nat) : AddressWindow :=
  windowLatches c (q.1 + q.2.2) (y + q.2.1) (q.1 + q.2.2) (y + q.2.1)

/-- The work counters once a lit pixel is reached, if one is (R29). -/
def workAtPixel : Option (Nat × Nat × Nat) → Work → Work
  | none, w => w
  | some q, w => { w with row := q.2.1, col := q.2.2 }

/-- Only the later of two pixels shows. -/
theorem workAtPixel_or (later earlier : Option (Nat × Nat × Nat)) (w : Work) :
    workAtPixel (later.or earlier) w = workAtPixel later (workAtPixel earlier w) := by
  cases later <;> cases earlier <;> rfl

theorem workAtPixel_cursor (q : Option (Nat × Nat × Nat)) (w : Work) (chari : Nat) (cur : Int) :
    workAtPixel q { w with chari := chari, cur := cur } = { workAtPixel q w with chari := chari, cur := cur } := by
  cases q <;> rfl

theorem workAtPixel_overwritten (q : Option (Nat × Nat × Nat)) (w : Work) (row col : Nat) :
    { workAtPixel q w with row := row, col := col } = { w with row := row, col := col } := by
  cases q <;> rfl

theorem pixelEvents_append (c : Cfg) (y : Nat) (color : U16) (ps qs : List (Nat × Nat × Nat)) :
    pixelEvents c y color (ps ++ qs) = pixelEvents c y color ps ++ pixelEvents c y color qs := List.flatMap_append

theorem traceChar_eq_pixelEvents (c : Cfg) (code x y : Nat) (color : U16) :
    traceChar c code x y color = pixelEvents c y color ((charPixels c.font code).map (fun p => (x, p.1, p.2))) := by
  rw [traceChar, pixelEvents, List.flatMap_map]

theorem traceText_eq_pixelEvents (c : Cfg) (y : Nat) (color : U16) (cur : Nat) (codes : List Nat) :
    traceText c y color cur codes = pixelEvents c y color (textPixels c cur codes) := by
  induction codes generalizing cur with
  | nil => rfl
  | cons code codes ih => rw [traceText, textPixels, pixelEvents_append, ih, traceChar_eq_pixelEvents]

/-- Each pixel ends with a data transaction, so the last one settles the pins (R125, R165). -/
theorem pinsAfter_pixelEvents (p : Pins) (c : Cfg) (y : Nat) (color : U16) (qs : List (Nat × Nat × Nat)) :
    pinsAfter p (pixelEvents c y color qs) =
      if qs.isEmpty then p else { cs := false, dc := true, rst := p.rst } := by
  induction qs generalizing p with
  | nil => rfl
  | cons q qs ih =>
    have hpixel : pinsAfter p (tracePixel c (q.1 + q.2.2) (y + q.2.1) color) =
      { cs := false, dc := true, rst := p.rst } := rfl
    rw [pixelEvents, List.flatMap_cons, pinsAfter_append, hpixel]
    refine (ih _).trans ?_
    cases qs <;> rfl

/-! ## The programs that draw lit pixels -/

/-- The program emits the events of the lit pixels `qs` of cells at row `y`, and writes their windows. -/
structure Draws (c : Cfg) (y : Nat) (color : U16) (ms : List Micro) (qs : List (Nat × Nat × Nat)) : Prop where
  emits : Emits c ms (pixelEvents c y color qs)
  window : lastWindow c ms = qs.getLast?.map (pixelWindow c y)

section Composition

variable {c : Cfg} {y : Nat} {color : U16}

theorem Draws.append {ms ns : List Micro} {ps qs : List (Nat × Nat × Nat)} (h : Draws c y color ms ps)
    (h' : Draws c y color ns qs) : Draws c y color (ms ++ ns) (ps ++ qs) where
  emits := pixelEvents_append c y color ps qs ▸ h.emits.append h'.emits
  window := by rw [lastWindow_append, h.window, h'.window, List.getLast?_append, Option.map_or]

theorem draws_cursor (chari : Nat) (cur : Int) : Draws c y color [.cursor chari cur] [] :=
  ⟨(Emits.nil c).cursor chari cur, rfl⟩

theorem draws_programGlyphPixel (x : Nat) (p : Nat × Nat) :
    Draws c y color (programGlyphPixel x y color p) [(x, p.1, p.2)] := by
  have hevents : pixelEvents c y color [(x, p.1, p.2)] = expandDrawPixel c (x + p.2) (y + p.1) color := by
    rw [pixelEvents, List.flatMap_singleton, ← expandDrawPixel_eq_tracePixel]
    rfl
  exact ⟨hevents ▸ ⟨fun _ => rfl, rfl⟩, rfl⟩

theorem draws_glyphPixels (x : Nat) (ps : List (Nat × Nat)) :
    Draws c y color (ps.flatMap (programGlyphPixel x y color)) (ps.map (fun p => (x, p.1, p.2))) := by
  induction ps with
  | nil => exact ⟨.nil c, rfl⟩
  | cons p ps ih => exact (draws_programGlyphPixel x p).append ih

theorem draws_programText (chari cur : Nat) (codes : List Nat) :
    Draws c y color (programText c y color chari cur codes) (textPixels c cur codes) := by
  induction codes generalizing chari cur with
  | nil => exact draws_cursor chari cur
  | cons code codes ih =>
    exact ((draws_cursor chari cur).append (draws_glyphPixels cur _)).append (ih (chari + 1) (cur + c.font.charWidth))

end Composition

theorem workAfter_glyphPixels (x : Nat) (y : Int) (color : U16) (ps : List (Nat × Nat)) (w : Work) :
    workAfter (ps.flatMap (programGlyphPixel x y color)) w =
      workAtPixel (ps.map (fun p => (x, p.1, p.2))).getLast? w := by
  induction ps generalizing w with
  | nil => rfl
  | cons p ps ih =>
    have hpixel : workAfter (programGlyphPixel x y color p) w = workAtPixel (some (x, p.1, p.2)) w := rfl
    rw [List.flatMap_cons, workAfter_append, ih, hpixel, ← workAtPixel_or, List.map_cons, ← List.singleton_append,
      List.getLast?_append, List.getLast?_singleton]

/-- CHARI counts the characters and CUR moves by CHAR_WIDTH for each, skipped ones too (R203, R205). -/
theorem workAfter_programText (c : Cfg) (y : Int) (color : U16) (chari cur : Nat) (codes : List Nat) (w : Work) :
    workAfter (programText c y color chari cur codes) w =
      { workAtPixel (textPixels c cur codes).getLast? w with
        chari := chari + codes.length
        cur := cur + codes.length * c.font.charWidth } := by
  induction codes generalizing chari cur w with
  | nil => simp [programText, textPixels, workAfter, workOf, workAtPixel]
  | cons code codes ih =>
    have hchar : workAfter (.cursor chari cur :: programDrawChar c code cur y color) w =
        workAtPixel ((charPixels c.font code).map (fun p => (cur, p.1, p.2))).getLast?
          { w with chari := chari, cur := cur } := workAfter_glyphPixels cur y color _ _
    have hrest := ih (chari + 1) (cur + c.font.charWidth)
    rw [Int.natCast_add] at hrest
    have hcur : (cur : Int) + c.font.charWidth + codes.length * c.font.charWidth =
        cur + (codes.length + 1 : Nat) * c.font.charWidth := by
      push_cast
      ring
    rw [programText, workAfter_append, hchar, hrest, textPixels, List.getLast?_append, workAtPixel_or,
      workAtPixel_cursor _ w chari cur, workAtPixel_cursor _ _ chari cur, List.length_cons, ← hcur,
      Nat.add_right_comm chari, Nat.add_assoc chari]

/-! ## A run that ends (R201, R203) -/

theorem textViolation_of_text {c : Cfg} (l : Latches) (h : c.hasText = true) : textViolation c l = none := if_pos h

section DrawsToEnd

variable {i : Instr} {s : State} {y : Nat} {color : U16} {qs : List (Nat × Nat × Nat)} {work : Work} (hrun : CanRun s)
  (hv : violation i s.cfg s.latches = none) (hp : payloadNeeded i ≤ s.payload.length)
  (hg : textGeometryOk i s.cfg s.payload = true) (hi : isInitialize (.row i) = false)
  (hdraws : Draws s.cfg y color (program i s.cfg s.payload) qs)
  (hwork : workAfter (program i s.cfg s.payload) s.work = work)
include hrun hv hp hg hi hdraws hwork

/-- The state a program that draws no pixel leaves: chip-select too is as it was. -/
theorem exec_of_draws_none (hlast : qs.getLast? = none) :
    exec i s = .next { closed s [] with pinCs := s.pinCs, work := work } := by
  obtain rfl : qs = [] := List.getLast?_eq_none_iff.mp hlast
  have hexpand : expand i s.cfg s.payload = [] := (emits_program i s.cfg s.payload hp).unique hdraws.emits
  rw [exec_runs_to_end hrun hv hp hg hi, hexpand, hdraws.window, hwork]
  rfl

/-- The state a program whose lit pixels are all in the panel leaves, `q` being the last of them. -/
theorem exec_of_draws_some {q : Nat × Nat × Nat} (hlast : qs.getLast? = some q) :
    exec i s = .next
      { closed s (pixelEvents s.cfg y color qs) with pinDc := true, aw := pixelWindow s.cfg y q, work := work } := by
  have hpins : pinsAfter (pinsOf s) (pixelEvents s.cfg y color qs) = { cs := false, dc := true, rst := s.pinRst } := by
    rw [pinsAfter_pixelEvents]
    cases qs with
    | nil => cases hlast
    | cons q qs => rfl
  have hwindow : lastWindow s.cfg (program i s.cfg s.payload) = some (pixelWindow s.cfg y q) := by
    rw [hdraws.window, hlast, Option.map_some]
  exact exec_leaves hrun hv hp hg hi ((emits_program i s.cfg s.payload hp).unique hdraws.emits) hpins hwindow hwork

end DrawsToEnd

/-- Settles O37: the program draws the lit pixels of the one cell. -/
theorem drawCharRunsToEnd : Obligations.DrawCharRunsToEnd := by
  intro s code x y color hrun htext hin
  have hdraws : Draws s.cfg y.toNat color (program (.drawChar code x y color) s.cfg s.payload) _ :=
    draws_glyphPixels x.toNat (charPixels s.cfg.font (charCode s.cfg code))
  have hwork : workAfter (program (.drawChar code x y color) s.cfg s.payload) s.work = _ :=
    workAfter_glyphPixels x.toNat y.toNat color (charPixels s.cfg.font (charCode s.cfg code)) s.work
  have hv : violation (.drawChar code x y color) s.cfg s.latches = none := textViolation_of_text _ htext
  rw [List.getLast?_map] at hwork
  rw [traceChar_eq_pixelEvents]
  cases hlast : (charPixels s.cfg.font (charCode s.cfg code)).getLast? with
  | none =>
    rw [hlast] at hwork
    exact exec_of_draws_none hrun hv (Nat.zero_le _) hin rfl hdraws hwork (by rw [List.getLast?_map, hlast]; rfl)
  | some p =>
    rw [hlast] at hwork
    exact exec_of_draws_some hrun hv (Nat.zero_le _) hin rfl hdraws hwork (by rw [List.getLast?_map, hlast]; rfl)

/-- Settles O36: a character outside the font has no lit pixel, so the run of O37 emits nothing. -/
theorem unsupportedCharacterIsSkipped : Obligations.UnsupportedCharacterIsSkipped := by
  intro s code x y color hrun htext hout
  have hexec := drawCharRunsToEnd s code x y color hrun htext
  rw [charPixels_of_outside hout] at hexec
  exact hexec rfl

/-- Settles O38: the program draws the lit pixels of the cells in turn, and moves the cursor past the last. -/
theorem drawTextRunsToEnd : Obligations.DrawTextRunsToEnd := by
  intro s plen x y color hrun htext hsupplied hin
  have hprogram : program (.drawText plen x y color) s.cfg s.payload =
      programText s.cfg y.toNat color 0 x.toNat (textCodes s.cfg s.payload plen) := by
    simp only [program, programDrawText, payloadBytes_of_le hsupplied, textCodes, List.append_nil]
  have hdraws := draws_programText (c := s.cfg) (y := y.toNat) (color := color) 0 x.toNat
    (textCodes s.cfg s.payload plen)
  have hwork := workAfter_programText s.cfg y.toNat color 0 x.toNat (textCodes s.cfg s.payload plen) s.work
  have hlength : (textCodes s.cfg s.payload plen).length = plen.toNat := by simp [textCodes, hsupplied]
  have hv : violation (.drawText plen x y color) s.cfg s.latches = none := textViolation_of_text _ htext
  rw [← hprogram] at hdraws hwork
  rw [hlength, zero_add] at hwork
  rw [traceText_eq_pixelEvents]
  cases hlast : (textPixels s.cfg x.toNat (textCodes s.cfg s.payload plen)).getLast? with
  | none =>
    rw [hlast] at hwork
    exact exec_of_draws_none hrun hv hsupplied hin rfl hdraws hwork hlast
  | some q =>
    rw [hlast] at hwork
    exact exec_of_draws_some hrun hv hsupplied hin rfl hdraws hwork hlast

/-! ## A run that meets a pixel outside (R221, R226) -/

theorem passes_glyphPixels {c : Cfg} {x y : Int} (color : U16) {ps : List (Nat × Nat)}
    (h : pixelsInWindow c x y ps = true) : (ps.flatMap (programGlyphPixel x y color)).all (passes c) = true := by
  have hpixel : ∀ p ∈ ps, (programGlyphPixel x y color p).all (passes c) = true := by
    intro p hp
    have hin := List.all_eq_true.mp h p hp
    simp [programGlyphPixel, passes, hin, passes_windowTransactions, passes_emitAll]
  simpa [List.all_flatMap] using hpixel

/-- A lit pixel outside the panel stops the run when it is reached: ROW and COL are its own, and the fault's
information is its place (R221, notes/assumptions/17). -/
theorem perform_glyphPixel_of_outside {x y row col : Nat} {s : State}
    (h : ¬(x + col < s.cfg.width ∧ y + row < s.cfg.height)) :
    perform (.glyphPixel x y row col) s =
      .halt (raise ⟨.invalidGeometry, BitVec.ofNat 16 (x + col) ++ BitVec.ofNat 16 (y + row)⟩
        (pixelReached row col s)) := by
  have hinfo : geometryInfo (x + col) (y + row) = BitVec.ofNat 16 (x + col) ++ BitVec.ofNat 16 (y + row) := by
    rw [geometryInfo, ← Int.natCast_add, ← Int.natCast_add, BitVec.ofInt_natCast, BitVec.ofInt_natCast]
  have hbad : windowViolation s.cfg (x + col) (y + row) (x + col) (y + row) = some ⟨.invalidGeometry, _⟩ :=
    windowViolation_of_outside (by omega)
  rw [hinfo] at hbad
  simp only [perform, openWindow, hbad]
  rfl

/-- The state after a run of events, every field of it but the position. -/
theorem emitted_eq (es : List Event) {s : State} (ht : s.timer = 0) :
    emitted es s =
      { s with
        pinCs := (pinsAfter (pinsOf s) es).cs
        pinDc := (pinsAfter (pinsOf s) es).dc
        pinRst := (pinsAfter (pinsOf s) es).rst
        seq := (emitted es s).seq
        trace := s.trace ++ done es
        transport := s.transport.drop (txCount es) } := by
  induction es generalizing s with
  | nil => simp [emitted, done, txCount, pinsAfter, pinsOf]
  | cons e es ih =>
    rw [emitted, ih rfl]
    cases e <;> simp [done, txCount, pinsAfter, pinsOf, settleWait, emitDone, applyEvent, takeAnswer, ht]

/-- An operation whose program draws lit pixels that are in the panel and then reaches one that is not: the
whole state it leaves. -/
theorem exec_faults_at_pixel {i : Instr} {s : State} {x y row col : Nat} {color : U16} {ms ns : List Micro}
    {drawn : List (Nat × Nat × Nat)} {work : Work} (hrun : CanRun s) (hv : violation i s.cfg s.latches = none)
    (hi : isInitialize (.row i) = false)
    (hprogram : program i s.cfg s.payload = ms ++ .glyphPixel x y row col :: ns)
    (hpass : ms.all (passes s.cfg) = true) (hdraws : Draws s.cfg y color ms drawn)
    (hwork : { workAfter ms s.work with row := row, col := col } = work)
    (hout : ¬(x + col < s.cfg.width ∧ y + row < s.cfg.height)) :
    exec i s = .next (faultedInText s color y drawn (x + col) (y + row) work) := by
  have hrest := runMicros_append_writtenBy (.row i) (.glyphPixel x y row col :: ns) (s := begin (.row i) s)
    hrun.2.2 rfl hpass (by simp [hdraws.emits.writesFirst])
  rw [begin_cfg, hdraws.emits.events] at hrest
  have hcfg : (emitted (pixelEvents s.cfg y color drawn) (writtenBy ms (begin (.row i) s))).cfg = s.cfg :=
    emitted_cfg _ _
  rw [exec_runs hrun hv, hprogram, hrest,
    runMicros_halt _ _ _ _ _ (perform_glyphPixel_of_outside (hcfg.symm ▸ hout)), emitted_eq _ rfl,
    pinsAfter_pixelEvents, ← hwork]
  have hready : readyAtAcceptance (.row i) s.ready = s.ready := by simp [readyAtAcceptance, hi]
  simp only [writtenBy, hdraws.window, begin, hready]
  cases drawn <;> rfl

/-- The program of a character up to one of its lit pixels. -/
theorem programDrawChar_of_pixels {c : Cfg} {code : Nat} {before after : List (Nat × Nat)} {p : Nat × Nat} (x y : Int)
    (color : U16) (h : charPixels c.font code = before ++ p :: after) :
    ∃ ns, programDrawChar c code x y color =
      before.flatMap (programGlyphPixel x y color) ++ .glyphPixel x y p.1 p.2 :: ns :=
  ⟨_, by rw [programDrawChar, h, List.flatMap_append, List.flatMap_cons]; rfl⟩

/-- Settles O39: the pixels before it are drawn, then the pixel outside is reached. -/
theorem drawCharFaultsAtTheFirstPixelOutside : Obligations.DrawCharFaultsAtTheFirstPixelOutside := by
  intro s code x y color before after p hrun htext hpixels hin hout
  obtain ⟨ns, hprogram⟩ := programDrawChar_of_pixels x.toNat y.toNat color hpixels
  refine exec_faults_at_pixel (i := .drawChar code x y color) hrun (textViolation_of_text _ htext) rfl hprogram
    (passes_glyphPixels color hin) (draws_glyphPixels x.toNat before) ?_ hout
  rw [workAfter_glyphPixels, workAtPixel_overwritten]

/-- The program of a string up to a lit pixel of one of its characters: the characters before it, which leave the
cursor where that character is drawn, then its own pixels before. -/
theorem programText_of_pixels {c : Cfg} {code : Nat} {before after : List (Nat × Nat)} {p : Nat × Nat} (y : Int)
    (color : U16) (chari : Nat) (cur : Int) (good rest : List Nat) (h : charPixels c.font code = before ++ p :: after) :
    ∃ ns, programText c y color chari cur (good ++ code :: rest) =
      programText c y color chari cur good ++
        (before.flatMap (programGlyphPixel (cur + good.length * c.font.charWidth) y color) ++
          .glyphPixel (cur + good.length * c.font.charWidth) y p.1 p.2 :: ns) := by
  induction good generalizing chari cur with
  | nil =>
    obtain ⟨ns, hchar⟩ := programDrawChar_of_pixels cur y color h
    refine ⟨ns ++ programText c y color (chari + 1) (cur + c.font.charWidth) rest, ?_⟩
    simp [programText, hchar]
  | cons first good ih =>
    obtain ⟨ns, hns⟩ := ih (chari + 1) (cur + c.font.charWidth)
    have hcur : cur + c.font.charWidth + good.length * c.font.charWidth =
        cur + (first :: good).length * c.font.charWidth := by
      push_cast [List.length_cons]
      ring
    exact ⟨ns, by rw [List.cons_append, programText, hns, hcur, programText, List.append_assoc]⟩

/-- Settles O40: the characters before it are drawn and the cursor moved to its character, then as in O39. -/
theorem drawTextFaultsAtTheFirstPixelOutside : Obligations.DrawTextFaultsAtTheFirstPixelOutside := by
  intro s plen x y color good rest code before after p hrun htext hcodes hgood hpixels hin hout
  obtain ⟨cur, hcur⟩ : ∃ cur, cur = x.toNat + good.length * s.cfg.font.charWidth := ⟨_, rfl⟩
  have hcast : (x.toNat : Int) + good.length * s.cfg.font.charWidth = cur := by
    rw [hcur]
    push_cast
    rfl
  obtain ⟨ns, hglyph⟩ := programText_of_pixels y.toNat color 0 x.toNat good rest hpixels
  obtain ⟨more, hmore⟩ : ∃ more, program (.drawText plen x y color) s.cfg s.payload =
      programText s.cfg y.toNat color 0 x.toNat (textCodes s.cfg s.payload plen) ++ more := ⟨_, rfl⟩
  rw [hcast] at hin hglyph
  rw [hcodes, hglyph, ← List.append_assoc, List.append_assoc, List.cons_append] at hmore
  rw [hcast, ← hcur]
  refine exec_faults_at_pixel (i := .drawText plen x y color) hrun (textViolation_of_text _ htext) rfl hmore ?_
    ((draws_programText 0 x.toNat good).append (draws_glyphPixels cur before)) ?_ (hcur ▸ hout)
  · rw [List.all_append, passes_programText color 0 hgood, passes_glyphPixels color hin]
    rfl
  · rw [workAfter_append, workAfter_programText, workAfter_glyphPixels, hcast, zero_add, workAtPixel_overwritten]
    exact congrArg (fun w : Work => { w with chari := good.length, cur := cur }) (workAtPixel_overwritten _ _ p.1 p.2)

end Sys2Proof.Machine
end

section
/-! SUPPORT. The faults (60_exceptions.md R220 to R227): what fault entry writes, the buffer of another
length, that a fault stays until block reset, and the run of a program up to a TX the transport fails. -/

namespace Sys2Proof.Machine

/-! ## A TX the transport fails (R223) -/

/-- A micro step that opens no bad window, waits for no payload and reads no unwritten AW either emits its
event, with the transport's answer still to take, or is work between events. -/
theorem perform_cases_of_passes {m : Micro} {ms : List Micro} {s : State} (hm : passes s.cfg m = true)
    (hread : readsWindowFirst (m :: ms) = true → s.awValid = true) :
    (windowOf s.cfg m = none ∧ ∃ e, eventOf s.aw m = some e ∧ perform m s = emit e s) ∨
    (eventOf s.aw m = none ∧ ∃ work, perform m s = .go (afterWork m work s)) := by
  cases m with
  | emit e => exact .inl ⟨rfl, e, rfl, rfl⟩
  | columnPayload => exact .inl ⟨rfl, _, rfl, if_pos (hread rfl)⟩
  | rowPayload => exact .inl ⟨rfl, _, rfl, if_pos (hread rfl)⟩
  | window x0 y0 x1 y1 => exact .inr ⟨rfl, _, openWindow_of_inWindow hm⟩
  | glyphPixel x y row col => exact .inr ⟨rfl, _, openWindow_of_inWindow (s := pixelReached row col s) hm⟩
  | remaining n => exact .inr ⟨rfl, _, rfl⟩
  | cursor chari cur => exact .inr ⟨rfl, _, rfl⟩
  | awaitPayload => cases hm

/-- Work between events writes AW before the rest of the program reads it, or leaves it written (R26). -/
theorem awValid_afterWork {m : Micro} {ms : List Micro} {s : State} (work : Work)
    (hread : readsWindowFirst (m :: ms) = true → s.awValid = true) (h : readsWindowFirst ms = true) :
    (afterWork m work s).awValid = true := by
  cases hw : windowOf s.cfg m with
  | none => simpa [afterWork, worked, hw] using hread (readsWindowFirst_cons hw h)
  | some w => simp [afterWork, worked, hw]

theorem emit_of_fail {bs : List Byte} {s : State} {sent : Nat} {answers : List TxAnswer}
    (h : s.transport = .fail sent :: answers) :
    emit (.tx bs) s = .halt (failTx bs sent { s with transport := answers }) := by
  simp only [emit, h]

/-- The first of some events whose TX are all answered ok is emitted, and leaves the answers to the others. -/
theorem emit_of_replicate_ok {e : Event} {es : List Event} {s : State} {answers : List TxAnswer}
    (h : s.transport = List.replicate (txCount (e :: es)) TxAnswer.ok ++ answers) :
    emit e s = .go (emitDone e (takeAnswer e s)) ∧
      (takeAnswer e s).transport = List.replicate (txCount es) TxAnswer.ok ++ answers := by
  cases e with
  | tx bs =>
    have hok : s.transport = .ok :: (List.replicate (txCount es) TxAnswer.ok ++ answers) := h
    simp [emit, takeAnswer, hok]
  | _ => exact ⟨rfl, h⟩

/-- The state that stands at a TX the transport is about to fail, once the events `es` are emitted. -/
def emittedUpTo (es : List Event) (answers : List TxAnswer) (s : State) : State :=
  { emitted es s with transport := answers }

/-- The run of a program that only the transport stops: the events before the failed TX are emitted, then
TransportFailure is taken; else only AW and the work counters may differ from what the run began with. -/
theorem runMicros_of_failed_tx (op : Op) {ms : List Micro} {s : State} {before after : List Event} {bs : List Byte}
    {sent : Nat} {answers : List TxAnswer} (ht : s.timer = 0) (hpass : ms.all (passes s.cfg) = true)
    (hread : readsWindowFirst ms = true → s.awValid = true)
    (hevents : programEvents s.cfg s.aw ms = before ++ .tx bs :: after)
    (htransport : s.transport = List.replicate (txCount before) TxAnswer.ok ++ .fail sent :: answers) :
    ∃ aw valid work, runMicros op ms s =
      .next (failTx bs sent (emittedUpTo before answers (worked s aw valid work))) := by
  induction ms generalizing s before with
  | nil => simp [programEvents] at hevents
  | cons m ms ih =>
    obtain ⟨hm, hms⟩ : passes s.cfg m = true ∧ ms.all (passes s.cfg) = true := by simpa using hpass
    obtain ⟨hw, e, he, hperform⟩ | ⟨he, work, hperform⟩ := perform_cases_of_passes hm hread
    · simp only [programEvents, he, hw, Option.toList_some, Option.getD_none, List.singleton_append] at hevents
      cases before with
      | nil =>
        obtain ⟨rfl, -⟩ := List.cons.inj hevents
        exact ⟨s.aw, s.awValid, s.work, runMicros_halt op m ms s _ (hperform.trans (emit_of_fail htransport))⟩
      | cons e' before =>
        obtain ⟨rfl, hrest⟩ := List.cons.inj hevents
        obtain ⟨hgo, hanswers⟩ := emit_of_replicate_ok htransport
        obtain ⟨aw, valid, work, hrun⟩ := ih (s := settleWait (emitDone e (takeAnswer e s))) rfl
          (by simpa using hms) (fun h => by simpa using hread (readsWindowFirst_cons hw h)) (by simpa using hrest)
          (by simpa using hanswers)
        refine ⟨aw, valid, work, (runMicros_go op m ms s _ (hperform.trans hgo)).trans (hrun.trans ?_)⟩
        simp only [emittedUpTo, emitted, settleWait_emitDone_worked]
    · obtain ⟨aw, valid, work', hrun⟩ := ih (s := afterWork m work s) ht hms (awValid_afterWork work hread)
        (by simpa [programEvents, he, afterWork, worked] using hevents) htransport
      refine ⟨aw, valid, work', (runMicros_go op m ms s _ hperform).trans ?_⟩
      rw [settleWait_of_timer_zero (s := afterWork m work s) ht]
      exact hrun

/-- Settles O42: the program of the operation emits its expansion, so it runs up to the TX that fails; the
fields of the faulted state are those the events before it leave. -/
theorem transportFailureStopsInPlace : Obligations.TransportFailureStopsInPlace := by
  intro op s sent answers before after bs hcan hgrain hv hp hg hexpand htransport
  have hemits := emits_opProgram op s.cfg s.payload hp
  obtain ⟨aw, valid, work, hrun⟩ := runMicros_of_failed_tx op (s := begin op s) rfl
    (passes_opProgram hcan.2 hv hp hg) (by simp [hemits.writesFirst]) ((hemits.events _).trans hexpand) htransport
  have hseq : (emitted before (worked (begin op s) aw valid work)).seq = .run op before.length := by
    simpa using emitted_seq (es := before) (s := worked (begin op s) aw valid work) (k := 0) rfl
  refine ⟨_, (execOp_runs hcan hgrain hv).trans hrun, ?_, ?_, rfl, rfl, rfl, rfl, ?_, ?_, rfl⟩
  · exact congrArg (· ++ [TraceEntry.failed bs sent]) (emitted_trace before _)
  · exact pinsOf_emitted before _
  · exact congrArg (fun q => BitVec.ofNat 32 (eventIndex q)) hseq
  · exact emitted_ready before _

/-! ## A buffer of another length (R222) -/

theorem blitViolation_of_other_length {c : Cfg} {x y w h : Int} {length : Nat}
    (hr : 1 ≤ w ∧ 1 ≤ h ∧ 0 ≤ x ∧ x + w ≤ c.width ∧ 0 ≤ y ∧ y + h ≤ c.height)
    (hlength : (length : Int) ≠ 2 * w * h) :
    blitViolation c x y w h length = some ⟨.invalidBuffer, BitVec.ofNat 32 length⟩ := by
  simp only [blitViolation, rectangleViolation_of_inside hr, if_neg hlength]

/-- An operation whose check is InvalidBuffer takes that fault and changes nothing else (R222, R224). -/
theorem execOp_invalidBuffer {op : Op} {s : State} {info : U32} (hcan : CanAccept s)
    (hv : opViolation op s.cfg s.latches = some ⟨.invalidBuffer, info⟩) :
    execOp op s = .next (faultedAtAcceptance s 3 info) := execOp_raises hcan hv

/-- Settles O28: in either form the rectangle passes its check and the length does not. -/
theorem buffersOfAnotherLengthFault : Obligations.BuffersOfAnotherLengthFault := by
  refine ⟨fun s x y w h plen hcan hw hh hx hy hne => ?_, fun s x y w h buffer hcan hw hh hx hy hne => ?_⟩
  · have hv := blitViolation_of_other_length (c := s.cfg) (x := x.toNat) (y := y.toNat) (w := w.toNat)
      (h := h.toNat) (length := plen.toNat) (by omega) (by exact_mod_cast hne)
    rw [BitVec.ofNat_toNat, BitVec.setWidth_eq] at hv
    exact execOp_invalidBuffer (op := .row (.blitBuffer x y w h plen)) hcan hv
  · exact execOp_invalidBuffer (op := .call (.blitBuffer buffer x y w h)) hcan
      (blitViolation_of_other_length (by omega) (by exact_mod_cast hne))

/-! ## Fault entry and the only way out (R224, R227) -/

theorem step_of_resetIn {s : State} (h : s.resetIn = true) : step s = .next (blockReset s) := by
  simp [step, stepBlock, h]

theorem step_of_faulted {s : State} (hs : s.seq = .faulted) (hr : s.resetIn = false) : step s = .next s := by
  simp [step, stepBlock, hs, hr]

/-- Settles O6: with the reset line low the step does nothing, with the line high it is block reset. -/
theorem faultIsStickyUntilBlockReset : Obligations.FaultIsStickyUntilBlockReset := by
  refine ⟨fun _ => step_of_faulted, fun s t _ hr h => ?_, fun s hs => ?_⟩
  · obtain rfl : blockReset s = t := by simpa [step_of_resetIn hr] using h
    exact ⟨rfl, rfl, rfl, rfl⟩
  · simp [ports, reqReady, hs]

/-- Settles O41: these are the fields `raise` sets and the codes of the four causes. -/
theorem faultEntryWritesOnlyItsRegisters : Obligations.FaultEntryWritesOnlyItsRegisters :=
  fun _ _ => ⟨rfl, rfl, rfl, rfl, rfl⟩

end Sys2Proof.Machine
end

section
/-! SUPPORT. The wait (60_exceptions.md R232, R262): the ticks that count it, and that where an operation's
expansion has a wait its program has no work before it, so that nothing can stop the step that emits it. -/

namespace Sys2Proof.Machine

/-! ## The ticks of a wait (R262) -/

/-- As many steps as the timer holds count it down, and nothing else changes. -/
theorem RunsByEvent.run_timer {op : Op} {k n : Nat} {s : State} (h : RunsByEvent op k s) (hn : s.timer = n) :
    Host.Core.run Sys2Proof.core n s = .next (settleWait s) := by
  induction n generalizing s with
  | zero => rw [settleWait_of_timer_zero hn]; rfl
  | succ n ih =>
    have hticked : RunsByEvent op k (tick s) := ⟨h.seq, h.grain, h.resetIn⟩
    have hrest : Host.Core.run Sys2Proof.core n (tick s) = .next (settleWait s) := ih hticked (by simp [hn])
    simpa [Host.Core.run, Sys2Proof.core, h.step_eq_tick (by simp [hn])] using hrest

/-! ## The expansions without a wait (R120, R164 to R203) -/

theorem wait_notMem_txn (n : Nat) (opcode : Option Byte) (payload : Option (List Byte)) :
    .wait n ∉ txn opcode payload := by
  cases opcode <;> cases payload <;> simp [txn]

theorem wait_notMem_expandSendCommand (n : Nat) (opcode : Option Byte) (plen : U32) (payload : List Byte) :
    .wait n ∉ expandSendCommand opcode plen payload := wait_notMem_txn n opcode _

theorem wait_notMem_expandSetAddressWindow (n : Nat) (c : Cfg) (x0 y0 x1 y1 : Int) :
    .wait n ∉ expandSetAddressWindow c x0 y0 x1 y1 := by
  simp [expandSetAddressWindow, wait_notMem_txn]

theorem wait_notMem_expandDrawPixel (n : Nat) (c : Cfg) (x y : Int) (color : U16) :
    .wait n ∉ expandDrawPixel c x y color := by
  simp [expandDrawPixel, wait_notMem_expandSetAddressWindow, wait_notMem_txn]

theorem wait_notMem_expandFill (n : Nat) (c : Cfg) (x y w h : Int) (color : U16) :
    .wait n ∉ expandFill c x y w h color := by
  simp [expandFill, expandRectangleWindow, fillBatches_eq_flatMap, batch, wait_notMem_expandSetAddressWindow,
    wait_notMem_txn]

theorem wait_notMem_expandBlit (n : Nat) (c : Cfg) (x y w h : Int) (buffer : List Byte) :
    .wait n ∉ expandBlit c x y w h buffer := by
  simp [expandBlit, expandRectangleWindow, wait_notMem_expandSetAddressWindow, wait_notMem_txn]

theorem wait_notMem_expandDrawChar (n : Nat) (c : Cfg) (code : Nat) (x y : Int) (color : U16) :
    .wait n ∉ expandDrawChar c code x y color := by
  simp [expandDrawChar, wait_notMem_expandDrawPixel]

theorem wait_notMem_expandDrawText (n : Nat) (c : Cfg) (y : Int) (color : U16) (cur : Int) (codes : List Nat) :
    .wait n ∉ expandDrawText c y color cur codes := by
  induction codes generalizing cur with
  | nil => simp [expandDrawText]
  | cons code codes ih => simp [expandDrawText, wait_notMem_expandDrawChar, ih]

/-! ## The programs with a wait (R140, R141, R190) -/

/-- The operation's program is the list of its expansion's events, or it is that of the panel's initialization. -/
def FixedOrInitialize (op : Op) (c : Cfg) (payload : List Byte) : Prop :=
  opProgram op c payload = emitAll (opExpand op c payload) ∨
    (opProgram op c payload = programInitialize c ∧ opExpand op c payload = expandInitialize c)

theorem fixedOrInitialize_of_wait {op : Op} {c : Cfg} {payload : List Byte} {n : Nat}
    (h : .wait n ∈ opExpand op c payload) : FixedOrInitialize op c payload := by
  cases op with
  | row i =>
    cases i with
    | sendCommandCmd opcode => exact absurd h (wait_notMem_expandSendCommand n (some opcode) 0 payload)
    | sendCommandCmdData opcode plen => exact absurd h (wait_notMem_expandSendCommand n (some opcode) plen payload)
    | sendCommandData plen => exact absurd h (wait_notMem_expandSendCommand n none plen payload)
    | setAddressWindow x0 y0 x1 y1 => exact absurd h (wait_notMem_expandSetAddressWindow n c _ _ _ _)
    | drawPixel x y color => exact absurd h (wait_notMem_expandDrawPixel n c _ _ color)
    | fillRectangle x y w h' color => exact absurd h (wait_notMem_expandFill n c _ _ _ _ color)
    | fillScreen color => exact absurd h (wait_notMem_expandFill n c _ _ _ _ color)
    | blitBuffer x y w h' plen => exact absurd h (wait_notMem_expandBlit n c _ _ _ _ _)
    | initializePanel => exact .inr ⟨rfl, rfl⟩
    | drawChar code x y color => exact absurd h (wait_notMem_expandDrawChar n c _ _ _ color)
    | drawText plen x y color => exact absurd h (wait_notMem_expandDrawText n c _ color _ _)
    | _ => exact .inl rfl
  | call r =>
    cases r with
    | sendCommand opcode p => rcases opcode with - | op <;> rcases p with - | bytes <;> exact .inl rfl
    | setAddressWindow x0 y0 x1 y1 => exact absurd h (wait_notMem_expandSetAddressWindow n c _ _ _ _)
    | drawPixel x y color => exact absurd h (wait_notMem_expandDrawPixel n c _ _ color)
    | fillRectangle x y w h' color => exact absurd h (wait_notMem_expandFill n c _ _ _ _ color)
    | fillScreen color => exact absurd h (wait_notMem_expandFill n c _ _ _ _ color)
    | blitBuffer buffer x y w h' => exact absurd h (wait_notMem_expandBlit n c _ _ _ _ buffer)
    | initializePanel => exact .inr ⟨rfl, rfl⟩
    | drawChar code x y color => exact absurd h (wait_notMem_expandDrawChar n c _ _ _ color)
    | drawText string x y color => exact absurd h (wait_notMem_expandDrawText n c _ color _ string)
    | _ => exact .inl rfl

theorem afterEvents_emitAll_append_of_getElem? {es : List Event} {k : Nat} {e : Event} (h : es[k]? = some e)
    (ms : List Micro) : ∃ rest, afterEvents k (emitAll es ++ ms) = .emit e :: rest := by
  induction es generalizing k with
  | nil => simp at h
  | cons e' es ih =>
    cases k with
    | zero =>
      obtain rfl : e' = e := by simpa using h
      exact ⟨emitAll es ++ ms, rfl⟩
    | succ k => exact ih (k := k) (by simpa using h)

theorem afterEvents_emitAll_of_getElem? {es : List Event} {k : Nat} {e : Event} (h : es[k]? = some e) :
    ∃ rest, afterEvents k (emitAll es) = .emit e :: rest := by
  simpa using afterEvents_emitAll_append_of_getElem? h []

/-- The waits of the panel's initialization stand before the fill and after it, and the events after it begin
with no wait, so that the work at the end of the fill comes before none. -/
theorem afterEvents_programInitialize_of_wait {c : Cfg} {k n : Nat} (h : (expandInitialize c)[k]? = some (.wait n)) :
    ∃ rest, afterEvents k (programInitialize c) = .emit (.wait n) :: rest := by
  have hfront := (Emits.emitAll c (expandInitBefore c)).append
    (emits_programFill c 0 0 c.width c.height c.initFillColor)
  rw [expandInitialize] at h
  rw [programInitialize]
  by_cases hk : k < (expandInitBefore c ++ expandFill c 0 0 c.width c.height c.initFillColor).length
  · rw [List.getElem?_append_left hk] at h
    by_cases hbefore : k < (expandInitBefore c).length
    · rw [List.getElem?_append_left hbefore] at h
      rw [List.append_assoc]
      exact afterEvents_emitAll_append_of_getElem? h _
    · rw [List.getElem?_append_right (Nat.not_lt.mp hbefore)] at h
      exact absurd (List.mem_of_getElem? h) (wait_notMem_expandFill n c _ _ _ _ _)
  · obtain ⟨j, rfl⟩ := Nat.exists_eq_add_of_le (Nat.not_lt.mp hk)
    rw [List.getElem?_append_right (Nat.le_add_right _ j), Nat.add_sub_cancel_left] at h
    cases j with
    | zero => simp [expandInitAfter, txn] at h
    | succ j =>
      rw [← hfront.eventCount_eq, afterEvents_eventCount_add_append]
      exact afterEvents_emitAll_of_getElem? h

/-- Where the next event of an operation is a wait, what is left of its program begins with it. -/
theorem afterEvents_opProgram_of_wait {op : Op} {c : Cfg} {payload : List Byte} {k n : Nat}
    (h : (opExpand op c payload)[k]? = some (.wait n)) :
    ∃ rest, afterEvents k (opProgram op c payload) = .emit (.wait n) :: rest := by
  obtain hfixed | ⟨hprogram, hexpand⟩ := fixedOrInitialize_of_wait (List.mem_of_getElem? h)
  · exact hfixed ▸ afterEvents_emitAll_of_getElem? h
  · exact hprogram ▸ afterEvents_programInitialize_of_wait (hexpand ▸ h)

/-- The step whose event is a wait emits it and does nothing else (R28, R232). -/
theorem RunsByEvent.step_of_wait {op : Op} {k n : Nat} {s : State} (h : RunsByEvent op k s) (ht : s.timer = 0)
    (hwait : (opExpand op s.cfg s.payload)[k]? = some (.wait n)) : step s = .next (Machine.emitDone (.wait n) s) := by
  obtain ⟨rest, hrest⟩ := afterEvents_opProgram_of_wait hwait
  rw [h.step_eq ht, hrest]
  exact runOneEvent_go_event op _ rest s _ rfl rfl

/-- Settles O45: the step that emits the wait loads the timer, and then each step is one tick. -/
theorem waitHoldsTheSequencerForItsTicks : Obligations.WaitHoldsTheSequencerForItsTicks := by
  refine ⟨fun n s op k hs hg hr hn => RunsByEvent.run_timer (op := op) (k := k) ⟨hs, hg, hr⟩ hn,
    fun n s op k hs hg hr ht hwait => ?_⟩
  have hruns : RunsByEvent op k s := ⟨hs, hg, hr⟩
  have hwaits := hruns.emitDone (.wait n)
  exact ⟨_, hruns.step_of_wait ht hwait, hwaits.seq, rfl, rfl, hwaits.run_timer rfl⟩

end Sys2Proof.Machine
end

section
/-! SUPPORT. The operations whose expansion is transactions only (40_framing.md R120), and the delays of the
others (70_reset_and_hazards.md R270). -/

namespace Sys2Proof.Machine

/-! ## Expansions that are transactions only (R120, R164 to R203) -/

/-- Every event is one of a transaction, so that none is a wait and none drives the reset line. -/
def OfTransactions (es : List Event) : Prop := ∀ e ∈ es, ∃ opcode payload, e ∈ txn opcode payload

theorem OfTransactions.nil : OfTransactions [] := fun _ he => absurd he List.not_mem_nil

theorem OfTransactions.txn (opcode : Option Byte) (payload : Option (List Byte)) :
    OfTransactions (txn opcode payload) := fun _ he => ⟨opcode, payload, he⟩

theorem OfTransactions.append {es fs : List Event} (h : OfTransactions es) (h' : OfTransactions fs) :
    OfTransactions (es ++ fs) := List.forall_mem_append.mpr ⟨h, h'⟩

theorem OfTransactions.flatMap {α : Type} {f : α → List Event} (h : ∀ a, OfTransactions (f a)) (l : List α) :
    OfTransactions (l.flatMap f) := by
  intro e he
  obtain ⟨a, -, hea⟩ := List.mem_flatMap.mp he
  exact h a e hea

theorem OfTransactions.wait_notMem {es : List Event} (h : OfTransactions es) (n : Nat) : .wait n ∉ es := by
  intro he
  obtain ⟨opcode, payload, htxn⟩ := h _ he
  exact wait_notMem_txn n opcode payload htxn

theorem rst_notMem_txn (l : Bool) (opcode : Option Byte) (payload : Option (List Byte)) :
    .rst l ∉ txn opcode payload := by
  cases opcode <;> cases payload <;> simp [Machine.txn]

theorem OfTransactions.rst_notMem {es : List Event} (h : OfTransactions es) (l : Bool) : .rst l ∉ es := by
  intro he
  obtain ⟨opcode, payload, htxn⟩ := h _ he
  exact rst_notMem_txn l opcode payload htxn

theorem ofTransactions_expandSetAddressWindow (c : Cfg) (x0 y0 x1 y1 : Int) :
    OfTransactions (expandSetAddressWindow c x0 y0 x1 y1) :=
  ((OfTransactions.txn _ _).append (.txn _ _)).append (.txn _ _)

theorem ofTransactions_expandDrawPixel (c : Cfg) (x y : Int) (color : U16) :
    OfTransactions (expandDrawPixel c x y color) :=
  (ofTransactions_expandSetAddressWindow c x y x y).append (.txn _ _)

theorem ofTransactions_expandFill (c : Cfg) (x y w h : Int) (color : U16) :
    OfTransactions (expandFill c x y w h color) := by
  rw [expandFill, fillBatches_eq_flatMap]
  exact (ofTransactions_expandSetAddressWindow c _ _ _ _).append (.flatMap (fun _ => .txn _ _) _)

theorem ofTransactions_expandBlit (c : Cfg) (x y w h : Int) (buffer : List Byte) :
    OfTransactions (expandBlit c x y w h buffer) :=
  (ofTransactions_expandSetAddressWindow c _ _ _ _).append (.txn _ _)

theorem ofTransactions_expandDrawChar (c : Cfg) (code : Nat) (x y : Int) (color : U16) :
    OfTransactions (expandDrawChar c code x y color) :=
  .flatMap (fun _ => ofTransactions_expandDrawPixel c _ _ color) _

theorem ofTransactions_expandDrawText (c : Cfg) (y : Int) (color : U16) (cur : Int) (codes : List Nat) :
    OfTransactions (expandDrawText c y color cur codes) := by
  induction codes generalizing cur with
  | nil => exact .nil
  | cons code codes ih => exact (ofTransactions_expandDrawChar c code cur y color).append (ih _)

/-- The panel's initialization and hardReset drive the reset line, and they and softReset wait (R140, R141, R190);
every other row of the table is transactions only. -/
theorem ofTransactions_expand {i : Instr} (hhard : i ≠ .hardReset) (hsoft : i ≠ .softReset)
    (hinit : i ≠ .initializePanel) (c : Cfg) (payload : List Byte) : OfTransactions (expand i c payload) := by
  cases i with
  | hardReset => exact absurd rfl hhard
  | softReset => exact absurd rfl hsoft
  | initializePanel => exact absurd rfl hinit
  | sendCommandNone => exact .nil
  | reserved op => exact .nil
  | setAddressWindow x0 y0 x1 y1 => exact ofTransactions_expandSetAddressWindow c _ _ _ _
  | drawPixel x y color => exact ofTransactions_expandDrawPixel c _ _ color
  | fillRectangle x y w h color => exact ofTransactions_expandFill c _ _ _ _ color
  | fillScreen color => exact ofTransactions_expandFill c _ _ _ _ color
  | blitBuffer x y w h plen => exact ofTransactions_expandBlit c _ _ _ _ _
  | drawChar code x y color => exact ofTransactions_expandDrawChar c _ _ _ color
  | drawText plen x y color => exact ofTransactions_expandDrawText c _ color _ _
  | _ =>
    dsimp only [expand]
    exact .txn _ _

/-- The same of the requests of the abstract syntax. -/
theorem ofTransactions_requestExpand {r : Request} (hhard : r ≠ .hardReset) (hsoft : r ≠ .softReset)
    (hinit : r ≠ .initializePanel) (c : Cfg) : OfTransactions (requestExpand r c) := by
  cases r with
  | hardReset => exact absurd rfl hhard
  | softReset => exact absurd rfl hsoft
  | initializePanel => exact absurd rfl hinit
  | sendCommand opcode p =>
    rcases opcode with - | op <;> rcases p with - | bytes
    · exact .nil
    all_goals
      dsimp only [requestExpand]
      exact .txn _ _
  | setAddressWindow x0 y0 x1 y1 => exact ofTransactions_expandSetAddressWindow c _ _ _ _
  | drawPixel x y color => exact ofTransactions_expandDrawPixel c _ _ color
  | fillRectangle x y w h color => exact ofTransactions_expandFill c _ _ _ _ color
  | fillScreen color => exact ofTransactions_expandFill c _ _ _ _ color
  | blitBuffer buffer x y w h => exact ofTransactions_expandBlit c _ _ _ _ buffer
  | drawChar code x y color => exact ofTransactions_expandDrawChar c _ _ _ color
  | drawText string x y color => exact ofTransactions_expandDrawText c _ color _ string
  | _ =>
    dsimp only [requestExpand]
    exact .txn _ _

/-! ## The delays (R270) -/

theorem waits_append (es fs : List Event) : waits (es ++ fs) = waits es ++ waits fs := by
  induction es with
  | nil => rfl
  | cons e es ih =>
    cases e with
    | wait n => exact congrArg (n :: ·) ih
    | _ => exact ih

theorem OfTransactions.waits_eq_nil {es : List Event} (h : OfTransactions es) : waits es = [] := by
  induction es with
  | nil => rfl
  | cons e es ih =>
    have hrest : waits es = [] := ih (List.forall_mem_cons.mp h).2
    cases e with
    | wait n => exact absurd List.mem_cons_self (h.wait_notMem n)
    | _ => exact hrest

/-- The fill has no wait: the delays of the initialization are those of the steps around it (R190). -/
theorem waits_expandInitialize (c : Cfg) : waits (expandInitialize c) = [50, 50, 150, 150, 50, 10, 10, 500] := by
  rw [expandInitialize, waits_append, waits_append, (ofTransactions_expandFill c _ _ _ _ _).waits_eq_nil]
  rfl

/-- Settles O33: the waits stand in the fixed events of three operations, and the others are transactions only. -/
theorem delaysAreTheTables : Obligations.DelaysAreTheTables := by
  refine ⟨fun c pl => ?_,
    fun i c pl hhard hsoft hinit => (ofTransactions_expand hhard hsoft hinit c pl).waits_eq_nil⟩
  have hinit : waits (expand .initializePanel c pl) = [50, 50, 150, 150, 50, 10, 10, 500] := waits_expandInitialize c
  exact ⟨rfl, rfl, hinit, by rw [hinit]; rfl⟩

end Sys2Proof.Machine
end

section
/-! SUPPORT. The pins after any part of a run, whether it completes, stops or waits (10_state.md R24, R30), and
the reset line, which only the pulse of hardReset writes (70_reset_and_hazards.md R257). -/

namespace Sys2Proof.Machine

/-! ## The pins along a run (R30) -/

theorem pinsOf_emitDone (e : Event) (s : State) : pinsOf (emitDone e (takeAnswer e s)) = pinsAfter (pinsOf s) [e] := by
  cases e <;> rfl

theorem advanceSeq_ne_idle {q : Seq} (h : q ≠ .idle) : advanceSeq q ≠ .idle := by
  cases q with
  | idle => exact absurd rfl h
  | _ => simp [advanceSeq]

/-- The run of `ms` from `s` has come to `t`: the pins are what a first part of the program's events made of
them, and all of its events when the operation is complete in `t`. -/
def RanPart (ms : List Micro) (s t : State) : Prop :=
  ∃ es, es <+: programEvents s.cfg s.aw ms ∧ pinsOf t = pinsAfter (pinsOf s) es ∧
    (s.seq ≠ .idle → t.seq = .idle → es = programEvents s.cfg s.aw ms)

theorem RanPart.of_pins_eq {ms : List Micro} {s t : State} (hpins : pinsOf t = pinsOf s)
    (hseq : s.seq ≠ .idle → t.seq ≠ .idle) : RanPart ms s t :=
  ⟨[], List.nil_prefix, hpins, fun hs ht => absurd ht (hseq hs)⟩

theorem RanPart.complete (op : Op) (s : State) : RanPart [] s (complete op s) :=
  ⟨[], List.nil_prefix, rfl, fun _ _ => rfl⟩

/-- What a micro step that goes on leaves of the pins, AW and the sequencer. -/
theorem perform_go_pins {m : Micro} {s s' : State} (h : perform m s = .go s') :
    s'.cfg = s.cfg ∧ s'.aw = (windowOf s.cfg m).getD s.aw ∧
      pinsOf s' = pinsAfter (pinsOf s) (eventOf s.aw m).toList ∧ (s.seq ≠ .idle → s'.seq ≠ .idle) := by
  obtain ⟨-, hw, e, he, rfl⟩ | ⟨-, he, work, rfl⟩ := perform_go_cases h
  · refine ⟨by simp, by simp [hw], ?_, fun hs => by simpa using advanceSeq_ne_idle hs⟩
    rw [he]
    exact pinsOf_emitDone e s
  · rw [he]
    exact ⟨rfl, rfl, rfl, id⟩

theorem perform_halt_pins {m : Micro} {s s' : State} (h : perform m s = .halt s') :
    pinsOf s' = pinsOf s ∧ (s.seq ≠ .idle → s'.seq ≠ .idle) := by
  obtain ⟨bs, sent, rest, -, rfl⟩ | ⟨x, y, work, rfl⟩ | ⟨-, rfl⟩ := perform_halt_cases h
  · exact ⟨rfl, fun _ => by simp [failTx]⟩
  · exact ⟨rfl, fun _ => by simp⟩
  · exact ⟨rfl, id⟩

theorem RanPart.of_halt {m : Micro} {ms : List Micro} {s s' : State} (h : perform m s = .halt s') :
    RanPart (m :: ms) s s' := by
  obtain ⟨hpins, hseq⟩ := perform_halt_pins h
  exact .of_pins_eq hpins hseq

theorem RanPart.of_go {m : Micro} {ms : List Micro} {s s' : State} (h : perform m s = .go s') :
    RanPart (m :: ms) s s' := by
  obtain ⟨-, -, hpins, hseq⟩ := perform_go_pins h
  exact ⟨_, List.prefix_append _ _, hpins, fun hs ht => absurd ht (hseq hs)⟩

theorem RanPart.cons {m : Micro} {ms : List Micro} {s s' t : State} (h : perform m s = .go s')
    (hrest : RanPart ms s' t) : RanPart (m :: ms) s t := by
  obtain ⟨hcfg, haw, hpins, hseq⟩ := perform_go_pins h
  obtain ⟨es, hes, hpins', hall⟩ := hrest
  rw [hcfg, haw] at hes hall
  refine ⟨(eventOf s.aw m).toList ++ es, (List.prefix_append_right_inj _).mpr hes, ?_, fun hs ht => ?_⟩
  · rw [hpins', hpins, pinsAfter_append]
  · rw [hall (hseq hs) ht, programEvents]

theorem ranPart_of_runMicros {op : Op} {ms : List Micro} {s t : State} (h : runMicros op ms s = .next t) :
    RanPart ms s t := by
  induction ms generalizing s with
  | nil => cases h; exact .complete op s
  | cons m ms ih =>
    cases hm : perform m s with
    | go s' => exact .cons hm (ih (s := settleWait s') (runMicros_go op m ms s s' hm ▸ h))
    | halt s' =>
      cases (runMicros_halt op m ms s s' hm).symm.trans h
      exact .of_halt hm
    | broken f => cases (runMicros_broken op m ms s f hm).symm.trans h

theorem ranPart_of_runOneEvent {op : Op} {ms : List Micro} {s t : State} (h : runOneEvent op ms s = .next t) :
    RanPart ms s t := by
  induction ms generalizing s with
  | nil => cases h; exact .complete op s
  | cons m ms ih =>
    cases hm : perform m s with
    | go s' =>
      cases he : isEvent m with
      | true =>
        cases (runOneEvent_go_event op m ms s s' hm he).symm.trans h
        exact .of_go hm
      | false => exact .cons hm (ih (runOneEvent_go_work op m ms s s' hm he ▸ h))
    | halt s' =>
      cases (runOneEvent_halt op m ms s s' hm).symm.trans h
      exact .of_halt hm
    | broken f => cases (runOneEvent_broken op m ms s f hm).symm.trans h

/-- At both grains, and while a wait is counted, a running operation that is gone on with runs a part of what is
left of its program. -/
theorem ranPart_of_resume {op : Op} {k : Nat} {s t : State} (h : resume op k s = .next t) :
    RanPart (afterEvents k (opProgram op s.cfg s.payload)) s t := by
  cases hg : s.grain with
  | operation => exact ranPart_of_runMicros (s := settleWait s) (by simpa [resume, hg] using h)
  | event =>
    by_cases ht : s.timer = 0
    · exact ranPart_of_runOneEvent (by simpa [resume, hg, ht] using h)
    · obtain rfl : tick s = t := by simpa [resume, hg, ht] using h
      exact .of_pins_eq rfl id

/-- The pins after a request at the sequencer: unchanged when it is not accepted, faults or only begins, and
otherwise what a part of its program made of them. -/
theorem ranPart_of_execOp {op : Op} {s t : State} (h : execOp op s = .next t) :
    ∃ u, pinsOf u = pinsOf s ∧ RanPart (opProgram op s.cfg s.payload) u t := by
  rw [execOp_eq_accept] at h
  obtain ⟨hs, haccept⟩ | ⟨-, -, haccept⟩ | ⟨-, v, -, haccept⟩ | ⟨-, -, haccept⟩ := accept_cases op _ _ s <;>
    rw [haccept] at h
  · cases h
    exact ⟨s, rfl, .of_pins_eq rfl id⟩
  · cases h
  · cases h
    exact ⟨s, rfl, .of_pins_eq rfl fun _ => by simp⟩
  · refine ⟨begin op s, rfl, ?_⟩
    cases hg : s.grain with
    | operation => exact ranPart_of_runMicros (by simpa [launch, hg] using h)
    | event =>
      obtain rfl : begin op s = t := by simpa [launch, hg] using h
      exact .of_pins_eq rfl id

/-! ## The reset line along a run (R257) -/

theorem pinsAfter_rst_of_notMem {es : List Event} (h : ∀ l, .rst l ∉ es) (p : Pins) :
    (pinsAfter p es).rst = p.rst := by
  induction es generalizing p with
  | nil => rfl
  | cons e es ih =>
    have hrest : ∀ l, .rst l ∉ es := fun l hl => h l (List.mem_cons_of_mem e hl)
    cases e with
    | rst l => exact absurd List.mem_cons_self (h l)
    | _ => exact ih hrest _

/-- Only a fixed event of the program is a write of the reset line: the other events are payloads. -/
theorem rst_mem_programEvents {c : Cfg} {w : AddressWindow} {ms : List Micro} {l : Bool} :
    .rst l ∈ programEvents c w ms ↔ .emit (.rst l) ∈ ms := by
  induction ms generalizing w with
  | nil => simp [programEvents]
  | cons m ms ih =>
    have hm : .rst l ∈ (eventOf w m).toList ↔ .emit (.rst l) = m := by cases m <;> simp [eventOf, eq_comm]
    rw [programEvents, List.mem_append, hm, ih, List.mem_cons]

theorem emitRst_mem_emitAll {es : List Event} {l : Bool} : .emit (.rst l) ∈ emitAll es ↔ .rst l ∈ es := by
  simp [emitAll]

/-- A program that emits no write of the reset line leaves it, wherever the run of it stops. -/
theorem RanPart.pinRst_eq {ms : List Micro} {s t : State} (h : RanPart ms s t) (hms : ∀ l, .emit (.rst l) ∉ ms) :
    t.pinRst = s.pinRst := by
  obtain ⟨es, hes, hpins, -⟩ := h
  have hnone : ∀ l, .rst l ∉ es := fun l hl => hms l (rst_mem_programEvents.mp (hes.mem hl))
  calc t.pinRst = (pinsAfter (pinsOf s) es).rst := congrArg Pins.rst hpins
    _ = s.pinRst := pinsAfter_rst_of_notMem hnone _

/-! ## The operations that leave the reset line (R257) -/

theorem rst_notMem_expandSoftReset (l : Bool) : .rst l ∉ expandSoftReset := by simp [expandSoftReset, txn]

theorem rst_notMem_opExpand {op : Op} (h : pulsesReset op = false) (c : Cfg) (payload : List Byte) (l : Bool) :
    .rst l ∉ opExpand op c payload := by
  cases op with
  | row i =>
    by_cases hsoft : i = .softReset
    · exact hsoft ▸ rst_notMem_expandSoftReset l
    · exact (ofTransactions_expand (by rintro rfl; cases h) hsoft (by rintro rfl; cases h) c payload).rst_notMem l
  | call r =>
    by_cases hsoft : r = .softReset
    · exact hsoft ▸ rst_notMem_expandSoftReset l
    · exact (ofTransactions_requestExpand (by rintro rfl; cases h) hsoft (by rintro rfl; cases h) c).rst_notMem l

theorem Emits.emitRst_mem_iff {c : Cfg} {ms : List Micro} {es : List Event} (h : Emits c ms es) {l : Bool} :
    .emit (.rst l) ∈ ms ↔ .rst l ∈ es := by
  rw [← h.events ⟨0, 0, 0, 0⟩, rst_mem_programEvents]

/-- With its payload short a program is a first part of it and the wait, which emits events of the expansion too. -/
theorem emitRst_notMem_opProgram {op : Op} (h : pulsesReset op = false) (c : Cfg) (payload : List Byte) (l : Bool) :
    .emit (.rst l) ∉ opProgram op c payload := by
  have hexpand := rst_notMem_opExpand h c payload l
  by_cases hp : opPayloadNeeded op ≤ payload.length
  · rwa [(emits_opProgram op c payload hp).emitRst_mem_iff]
  · cases op with
    | call r => exact absurd (Nat.zero_le _) hp
    | row i =>
      obtain ⟨before, es, hpause⟩ := exists_pausesAfter c (Nat.lt_of_not_le hp)
      obtain ⟨rest, hrest⟩ := hpause.expand_eq
      have hes : .rst l ∉ es := fun hl =>
        hexpand (hrest.symm ▸ List.mem_append_left rest hl : .rst l ∈ expand i c payload)
      show .emit (.rst l) ∉ program i c payload
      rw [hpause.program_eq]
      simpa [hpause.emits.emitRst_mem_iff] using hes

/-! ## The pulse (R140, R190) -/

theorem pulsesReset_iff {op : Op} : pulsesReset op = true ↔
    op = .row .hardReset ∨ op = .row .initializePanel ∨ op = .call .hardReset ∨ op = .call .initializePanel := by
  simp [pulsesReset, or_assoc]

theorem opPayloadNeeded_of_pulsesReset {op : Op} (h : pulsesReset op = true) : opPayloadNeeded op = 0 := by
  obtain rfl | rfl | rfl | rfl := pulsesReset_iff.mp h <;> rfl

theorem opViolation_of_pulsesReset {op : Op} (h : pulsesReset op = true) (c : Cfg) (l : Latches) :
    opViolation op c l = none := by
  obtain rfl | rfl | rfl | rfl := pulsesReset_iff.mp h <;> rfl

/-- `ms` is the pulse of hardReset and then steps that leave the reset line. -/
def BeginsWithPulse (ms : List Micro) : Prop :=
  ∃ rest, ms = emitAll expandHardReset ++ rest ∧ ∀ l, .emit (.rst l) ∉ rest

theorem beginsWithPulse_hardReset : BeginsWithPulse (emitAll expandHardReset) :=
  ⟨[], (List.append_nil _).symm, fun _ => List.not_mem_nil⟩

/-- Of the thirteen steps only the first writes the line (R190). -/
theorem beginsWithPulse_programInitialize (c : Cfg) : BeginsWithPulse (programInitialize c) := by
  refine ⟨emitAll ((expandInitBefore c).drop 8) ++ programFill c 0 0 c.width c.height c.initFillColor ++
    emitAll expandInitAfter, rfl, fun l => ?_⟩
  have hbefore : .rst l ∉ (expandInitBefore c).drop 8 := by
    simp [expandInitBefore, expandHardReset, expandSoftReset, expandSetSleep, expandSetColorMode,
      expandSetMemoryAccessMode, expandSetInversion, txn]
  have hfill := (ofTransactions_expandFill c 0 0 c.width c.height c.initFillColor).rst_notMem l
  have hafter : .rst l ∉ expandInitAfter := by simp [expandInitAfter, txn]
  simp only [List.mem_append, emitRst_mem_emitAll, (emits_programFill c _ _ _ _ _).emitRst_mem_iff, hbefore, hfill,
    hafter, or_self, not_false_eq_true]

theorem beginsWithPulse_opProgram {op : Op} (h : pulsesReset op = true) (c : Cfg) (payload : List Byte) :
    BeginsWithPulse (opProgram op c payload) := by
  obtain rfl | rfl | rfl | rfl := pulsesReset_iff.mp h
  · exact beginsWithPulse_hardReset
  · exact beginsWithPulse_programInitialize c
  · exact beginsWithPulse_hardReset
  · exact beginsWithPulse_programInitialize c

/-- The last level of the pulse is high. -/
theorem pinsAfter_programEvents_rst {ms : List Micro} (h : BeginsWithPulse ms) (c : Cfg) (w : AddressWindow)
    (p : Pins) : (pinsAfter p (programEvents c w ms)).rst = true := by
  obtain ⟨rest, rfl, hrest⟩ := h
  rw [programEvents_append, (Emits.emitAll c expandHardReset).events, pinsAfter_append,
    pinsAfter_rst_of_notMem fun l hl => hrest l (rst_mem_programEvents.mp hl)]
  rfl

/-- No event of the pulse needs the transport, so that it is over wherever the run stops. -/
theorem pinRst_of_runMicros_pulse {op : Op} {ms : List Micro} {s t : State} (hms : BeginsWithPulse ms)
    (h : runMicros op ms s = .next t) : t.pinRst = true := by
  obtain ⟨rest, rfl, hrest⟩ := hms
  have hpulse : runMicros op rest (emitted expandHardReset s) = .next t := h
  calc t.pinRst = (emitted expandHardReset s).pinRst := (ranPart_of_runMicros hpulse).pinRst_eq hrest
    _ = true := congrArg Pins.rst (pinsOf_emitted expandHardReset s)

/-! ## The rest of a running operation (R28) -/

/-- The values in AW show in payloads only. -/
theorem pinsAfter_programEvents_aw (p : Pins) (c : Cfg) (w w' : AddressWindow) (ms : List Micro) :
    pinsAfter p (programEvents c w ms) = pinsAfter p (programEvents c w' ms) := by
  induction ms generalizing p w w' with
  | nil => rfl
  | cons m ms ih =>
    have hm : pinsAfter p (eventOf w m).toList = pinsAfter p (eventOf w' m).toList := by cases m <;> rfl
    rw [programEvents, programEvents, pinsAfter_append, pinsAfter_append, hm]
    exact ih _ _ _

/-- What is left of a program after `k` events does to the pins what its events from number `k` on do. -/
theorem pinsAfter_programEvents_afterEvents (p : Pins) (c : Cfg) (w w' : AddressWindow) (k : Nat) (ms : List Micro) :
    pinsAfter p (programEvents c w (afterEvents k ms)) = pinsAfter p ((programEvents c w' ms).drop k) := by
  induction ms generalizing k w' with
  | nil => cases k <;> rfl
  | cons m ms ih =>
    cases k with
    | zero => exact pinsAfter_programEvents_aw p c w w' _
    | succ k =>
      have hlength := eventOf_length w' m
      cases hm : isEvent m with
      | true =>
        obtain ⟨e, he⟩ : ∃ e, (eventOf w' m).toList = [e] :=
          List.length_eq_one_iff.mp (by simpa [hm] using hlength)
        simpa [afterEvents, hm, programEvents, he] using ih _ k
      | false =>
        have hnone : (eventOf w' m).toList = [] := by simpa [hm] using hlength
        simpa [afterEvents, hm, programEvents, hnone] using ih _ (k + 1)

/-- A running operation gone on with to its completion leaves the pins that its whole expansion makes of the levels
it began with. -/
theorem pinsOf_of_resume_complete {op : Op} {k : Nat} {s t : State} (hs : s.seq = .run op k) (hpins : PinsInv s)
    (hp : opPayloadNeeded op ≤ s.payload.length) (h : resume op k s = .next t) (ht : t.seq = .idle) :
    ∃ p, pinsOf t = pinsAfter p (opExpand op s.cfg s.payload) := by
  obtain ⟨p, hlevels⟩ : ∃ p, pinsOf s = pinsAfter p ((opExpand op s.cfg s.payload).take k) := by
    simpa [PinsInv, hs] using hpins
  obtain ⟨es, -, hes, hall⟩ := ranPart_of_resume h
  refine ⟨p, ?_⟩
  rw [hes, hall (by simp [hs]) ht, pinsAfter_programEvents_afterEvents _ _ _ s.aw,
    (emits_opProgram op s.cfg s.payload hp).events, hlevels, ← pinsAfter_append, List.take_append_drop]

/-- Settles O50: an operation without the pulse emits no write of the line, in whatever part of it is run; with the
pulse, its last level is high. -/
theorem resetLineIsWrittenOnlyByHardReset : Obligations.ResetLineIsWrittenOnlyByHardReset := by
  refine ⟨fun op s t hop h => ?_, fun op k s t hop h => ?_, fun op s t hop hcan hg h => ?_,
    fun op k s t hop hs _ hpins h ht => ?_⟩
  · obtain ⟨u, hu, hran⟩ := ranPart_of_execOp h
    exact (hran.pinRst_eq (emitRst_notMem_opProgram hop _ _)).trans (congrArg Pins.rst hu)
  · refine (ranPart_of_resume h).pinRst_eq fun l hl => emitRst_notMem_opProgram hop s.cfg s.payload l ?_
    rw [← upToEvents_append_afterEvents k (opProgram op s.cfg s.payload)]
    exact List.mem_append_right _ hl
  · rw [execOp_runs hcan hg (opViolation_of_pulsesReset hop _ _)] at h
    exact pinRst_of_runMicros_pulse (beginsWithPulse_opProgram hop _ _) h
  · have hp : opPayloadNeeded op ≤ s.payload.length := by simp [opPayloadNeeded_of_pulsesReset hop]
    obtain ⟨p, hpinsAfter⟩ := pinsOf_of_resume_complete hs hpins hp h ht
    rw [← (emits_opProgram op s.cfg s.payload hp).events s.aw] at hpinsAfter
    exact (congrArg Pins.rst hpinsAfter).trans
      (pinsAfter_programEvents_rst (beginsWithPulse_opProgram hop _ _) _ _ _)

end Sys2Proof.Machine
end

section
/-! SUPPORT. The counts of a trace (70_reset_and_hazards.md R272): they add up over the parts of a trace that begins
each transaction by its own level of the data/command line. -/

namespace Sys2Proof.Machine

/-! ## Counts of a trace and of its parts -/

/-- The counts of a trace, the data/command line starting at `dc`. -/
def countsFrom (dc : Bool) (es : List Event) : Counts :=
  { events := es.length, transactions := transactionCount es, commandBytes := bytesAtLevel false dc es,
    dataBytes := bytesAtLevel true dc es }

/-- The counts of a trace are `n` whatever level the data/command line starts at: no TX stands before the first
write of the line. -/
def HasCounts (es : List Event) (n : Counts) : Prop := ∀ dc, countsFrom dc es = n

theorem HasCounts.counts_eq {es : List Event} {n : Counts} (h : HasCounts es n) : counts es = n := h true

/-- The sum of two counts, field by field. -/
def Counts.add (a b : Counts) : Counts :=
  { events := a.events + b.events, transactions := a.transactions + b.transactions,
    commandBytes := a.commandBytes + b.commandBytes, dataBytes := a.dataBytes + b.dataBytes }

/-- The counts of a trace's second part are taken from the level at which its first part leaves the line. -/
theorem exists_bytesAtLevel_append (dc : Bool) (es : List Event) :
    ∃ dc', ∀ level fs, bytesAtLevel level dc (es ++ fs) = bytesAtLevel level dc es + bytesAtLevel level dc' fs := by
  induction es generalizing dc with
  | nil => exact ⟨dc, fun level fs => (Nat.zero_add _).symm⟩
  | cons e es ih =>
    cases e with
    | dc l => exact ih l
    | tx bs =>
      obtain ⟨dc', h⟩ := ih dc
      exact ⟨dc', fun level fs => by rw [List.cons_append, bytesAtLevel, bytesAtLevel, h, Nat.add_assoc]⟩
    | _ => exact ih dc

theorem HasCounts.append {es fs : List Event} {m n : Counts} (h : HasCounts es m) (h' : HasCounts fs n) :
    HasCounts (es ++ fs) (m.add n) := by
  intro dc
  obtain ⟨dc', hbytes⟩ := exists_bytesAtLevel_append dc es
  rw [← h dc, ← h' dc']
  simp only [countsFrom, Counts.add, transactionCount, List.length_append, List.countP_append, hbytes]

theorem HasCounts.nil : HasCounts [] ⟨0, 0, 0, 0⟩ := fun _ => rfl

/-- `k` lit pixels, each a pixel drawn (R165, R272). -/
def pixelCounts (k : Nat) : Counts := ⟨20 * k, 4 * k, 3 * k, 10 * k⟩

theorem pixelCounts_add (j k : Nat) : (pixelCounts j).add (pixelCounts k) = pixelCounts (j + k) := by
  simp only [pixelCounts, Counts.add, Nat.mul_add]

/-- The counts of `k` batches that hold `n` pixel units together (R167, R272). -/
def batchCounts (k n : Nat) : Counts := ⟨4 * k, k, 0, 2 * n⟩

theorem batchCounts_add (j k m n : Nat) : (batchCounts j m).add (batchCounts k n) = batchCounts (j + k) (m + n) := by
  simp only [batchCounts, Counts.add, Nat.mul_add]

/-! ## The counts of each kind of transaction (R120) -/

theorem hasCounts_command (op : Byte) : HasCounts (txn (some op) none) ⟨4, 1, 1, 0⟩ := fun _ => rfl

theorem hasCounts_commandData (op : Byte) (bs : List Byte) :
    HasCounts (txn (some op) (some bs)) ⟨6, 1, 1, bs.length⟩ := by
  intro dc
  simp [countsFrom, transactionCount, txn, bytesAtLevel]

theorem hasCounts_data (bs : List Byte) : HasCounts (txn none (some bs)) ⟨4, 1, 0, bs.length⟩ := by
  intro dc
  simp [countsFrom, transactionCount, txn, bytesAtLevel]

theorem hasCounts_expandSetAddressWindow (c : Cfg) (x0 y0 x1 y1 : Int) :
    HasCounts (expandSetAddressWindow c x0 y0 x1 y1) ⟨16, 3, 3, 8⟩ := fun _ => rfl

theorem hasCounts_expandDrawPixel (c : Cfg) (x y : Int) (color : U16) :
    HasCounts (expandDrawPixel c x y color) (pixelCounts 1) := fun _ => rfl

/-! ## sendCommand and blitBuffer (R122, R123, R170) -/

theorem expandSendCommand_of_ne_zero (opcode : Option Byte) {plen : U32} (payload : List Byte) (hne : plen ≠ 0#32) :
    expandSendCommand opcode plen payload = txn opcode (some (payload.take plen.toNat)) := by
  rw [expandSendCommand, payloadArgument, if_neg hne]

theorem hasCounts_expandBlit (c : Cfg) (x y w h : Int) (buffer : List Byte) :
    HasCounts (expandBlit c x y w h buffer) ⟨20, 4, 3, 8 + buffer.length⟩ :=
  (hasCounts_expandSetAddressWindow c _ _ _ _).append (hasCounts_data buffer)

/-! ## The batches of a fill (R167) -/

theorem length_rep (xs : List Byte) (n : Nat) : (rep xs n).length = n * xs.length := by
  induction n with
  | zero => simp [rep]
  | succ n ih => rw [rep, List.length_append, ih, Nat.succ_mul, Nat.add_comm]

theorem hasCounts_batch (color : U16) (n : Nat) : HasCounts (batch color n) (batchCounts 1 n) := by
  have hbytes : (rep (be16 color) n).length = 2 * n := (length_rep _ n).trans (Nat.mul_comm n 2)
  intro dc
  rw [batch, hasCounts_data, hbytes]
  rfl

theorem hasCounts_batches (color : U16) (sizes : List Nat) :
    HasCounts (sizes.flatMap (batch color)) (batchCounts sizes.length sizes.sum) := by
  induction sizes with
  | nil => exact .nil
  | cons n sizes ih =>
    rw [List.flatMap_cons, List.length_cons, List.sum_cons, Nat.add_comm sizes.length, ← batchCounts_add]
    exact (hasCounts_batch color n).append ih

/-- The full batches and the partial one are as many as the quotient rounded up. -/
theorem length_batchSizes {chunk : Nat} (hchunk : 1 ≤ chunk) (n : Nat) :
    (batchSizes chunk n).length = ceilDiv n chunk := by
  have hlt : chunk - 1 < chunk := by omega
  have hround : n + chunk - 1 = n + (chunk - 1) := by omega
  have hpartial : chunk ≤ n % chunk + (chunk - 1) ↔ 0 < n % chunk := by omega
  rw [ceilDiv, hround, Nat.add_div hchunk, Nat.div_eq_of_lt hlt, Nat.mod_eq_of_lt hlt, batchSizes, List.length_append,
    List.length_replicate]
  simp only [hpartial]
  split <;> rfl

theorem hasCounts_fillBatches {chunk : Nat} (hchunk : 1 ≤ chunk) (color : U16) (n : Nat) :
    HasCounts (fillBatches chunk color n) (batchCounts (ceilDiv n chunk) n) := by
  have h := hasCounts_batches color (batchSizes chunk n)
  rwa [← fillBatches_eq_flatMap, length_batchSizes hchunk, sum_batchSizes] at h

theorem hasCounts_expandFill {c : Cfg} (hchunk : 1 ≤ c.chunkPixels) (x y : Int) (w h : Nat) (color : U16) :
    HasCounts (expandFill c x y w h color)
      ⟨16 + 4 * ceilDiv (w * h) c.chunkPixels, 3 + ceilDiv (w * h) c.chunkPixels, 3, 8 + 2 * w * h⟩ := by
  have hn : ((w : Int) * h).toNat = w * h := Int.toNat_natCast (w * h)
  rw [expandFill, hn, Nat.mul_assoc 2]
  exact (hasCounts_expandSetAddressWindow c _ _ _ _).append (hasCounts_fillBatches hchunk color _)

/-! ## The panel's initialization (R190) -/

theorem hasCounts_expandInitialize {c : Cfg} (hchunk : 1 ≤ c.chunkPixels) :
    HasCounts (expandInitialize c)
      ⟨61 + 4 * ceilDiv (c.width * c.height) c.chunkPixels, 11 + ceilDiv (c.width * c.height) c.chunkPixels, 10,
        10 + 2 * c.width * c.height⟩ := by
  have hbefore : HasCounts (expandInitBefore c) ⟨40, 7, 6, 2⟩ := fun _ => rfl
  have hafter : HasCounts expandInitAfter ⟨5, 1, 1, 0⟩ := fun _ => rfl
  have hall := (hbefore.append (hasCounts_expandFill hchunk 0 0 c.width c.height c.initFillColor)).append hafter
  intro dc
  rw [expandInitialize, hall dc]
  simp only [Counts.add, Counts.mk.injEq, true_and]
  omega

/-! ## Text (R201, R203) -/

theorem hasCounts_expandDrawChar (c : Cfg) (code : Nat) (x y : Int) (color : U16) :
    HasCounts (expandDrawChar c code x y color) (pixelCounts (charPixels c.font code).length) := by
  rw [expandDrawChar]
  induction charPixels c.font code with
  | nil => exact .nil
  | cons p ps ih =>
    rw [List.flatMap_cons, List.length_cons, Nat.add_comm ps.length, ← pixelCounts_add]
    exact (hasCounts_expandDrawPixel c _ _ color).append ih

theorem hasCounts_expandDrawText (c : Cfg) (y : Int) (color : U16) (cur : Int) (codes : List Nat) :
    HasCounts (expandDrawText c y color cur codes)
      (pixelCounts (codes.map (fun code => (charPixels c.font code).length)).sum) := by
  induction codes generalizing cur with
  | nil => exact .nil
  | cons code codes ih =>
    rw [expandDrawText, List.map_cons, List.sum_cons, ← pixelCounts_add]
    exact (hasCounts_expandDrawChar c code cur y color).append (ih _)

/-! ## The table (R272) -/

/-- Settles O60: each row of the table is the sum over the parts of the operation's expansion. -/
theorem operationCountsAreTheTables : Obligations.OperationCountsAreTheTables := by
  refine ⟨fun c pl op => (hasCounts_command op).counts_eq, fun c pl op plen hne hle => ?_, fun c pl => ⟨rfl, rfl⟩,
    fun c pl b => ⟨(hasCounts_command _).counts_eq, (hasCounts_command _).counts_eq⟩,
    fun c pl m b => ⟨(hasCounts_commandData _ _).counts_eq, (hasCounts_commandData _ _).counts_eq⟩,
    fun c pl x0 y0 x1 y1 color => ⟨(hasCounts_expandSetAddressWindow c _ _ _ _).counts_eq,
      (hasCounts_expandDrawPixel c _ _ color).counts_eq⟩,
    fun c pl x y w h color hchunk => (hasCounts_expandFill hchunk _ _ _ _ color).counts_eq,
    fun c pl color hchunk => (hasCounts_expandFill hchunk 0 0 c.width c.height color).counts_eq,
    fun c pl x y w h plen hplen hle => ?_, fun c pl hchunk => (hasCounts_expandInitialize hchunk).counts_eq,
    fun c pl code x y color n hn => ?_, fun c pl plen x y color n hn => ?_⟩
  · have hlength : (pl.take plen.toNat).length = plen.toNat := List.length_take_of_le hle
    rw [expand, expand, expandSendCommand_of_ne_zero _ pl hne, expandSendCommand_of_ne_zero _ pl hne,
      (hasCounts_commandData op _).counts_eq, (hasCounts_data _).counts_eq, hlength]
    exact ⟨rfl, rfl⟩
  · have hlength : (pl.take plen.toNat).length = 2 * w.toNat * h.toNat := (List.length_take_of_le hle).trans hplen
    rw [expand, (hasCounts_expandBlit c _ _ _ _ _).counts_eq, hlength]
  · rw [hn]
    exact (hasCounts_expandDrawChar c _ _ _ color).counts_eq
  · rw [hn]
    exact (hasCounts_expandDrawText c _ color _ _).counts_eq

end Sys2Proof.Machine
end

section
/-! SUPPORT. What a step can do (10_state.md R28, R33; 70_reset_and_hazards.md R250): the three obligations about
block reset and the request port, one case distinction for the step, and the induction over it. -/

namespace Sys2Proof.Machine

/-! ## Block reset and the request port (R37, R250) -/

/-- Settles O1: the step is block reset, which gives every one of these fields its value. -/
theorem blockResetLeavesResetValues : Obligations.BlockResetLeavesResetValues := by
  intro s h
  exact ⟨blockReset s, step_of_resetIn h, rfl, rfl, rfl, rfl, rfl, rfl, rfl, rfl, rfl, rfl, rfl⟩

theorem statusInv_blockReset (s : State) : StatusInv (blockReset s) :=
  ⟨rfl, rfl, fun _ => ⟨rfl, rfl⟩, fun h => Bool.noConfusion h, Nat.zero_le _⟩

/-- Settles O2: the reset state is what block reset makes of itself, and in IDLE the invariants about a running
operation say nothing. -/
theorem resetStateHasResetValues : Obligations.ResetStateHasResetValues :=
  ⟨rfl, rfl, rfl, rfl, rfl, rfl, rfl, rfl, rfl, rfl, statusInv_blockReset State.reset, trivial, trivial, trivial⟩

theorem step_of_no_request {s : State} (hreset : s.resetIn = false) (hidle : s.seq = .idle) (hinbox : s.inbox = []) :
    step s = .next s := by
  simp [step, stepBlock, hreset, hidle, hinbox]

/-- Settles O3: the step in IDLE on each kind of head of the port, and what taking an offer writes. -/
theorem stepRunsTheDecodedInstruction : Obligations.StepRunsTheDecodedInstruction :=
  ⟨fun _ _ _ _ hreset hidle hinbox hdecode => step_of_coded hreset hidle hinbox hdecode,
    fun _ _ _ hreset hidle hinbox => step_of_call hreset hidle hinbox,
    fun _ hreset hidle hinbox => step_of_no_request hreset hidle hinbox, fun _ _ _ => rfl, fun _ _ _ => rfl⟩

/-! ## The cases of a step (R28) -/

/-- The state in which the request presented is taken from the port, with what the port carries for it. -/
def taken (o : Offer) (rest : List Ask) (s : State) : State := takeOffer o { s with inbox := rest }

theorem fetch_cases (a : Ask) (rest : List Ask) (s : State) :
    (∃ why, fetch a { s with inbox := rest } = .refused why) ∨
    (∃ op o, fetch a { s with inbox := rest } = execOp op (taken o rest s)) := by
  cases a with
  | call r => exact .inr ⟨.call r, lower r, rfl⟩
  | coded o =>
    cases h : decode o.code with
    | ok i => exact .inr ⟨.row i, o, by simp [fetch, h, execOp, taken]⟩
    | error why => exact .inl ⟨.notAFrame why, by simp [fetch, h]⟩

/-- A step is block reset, does nothing, refuses what the port presents, executes it, or goes on with the running
operation. -/
theorem step_cases (s : State) :
    step s = .next (blockReset s) ∨ step s = .next s ∨ (∃ why, step s = .refused why) ∨
    (s.seq = .idle ∧ ∃ op o rest, step s = execOp op (taken o rest s)) ∨
    (∃ op k, s.seq = .run op k ∧ step s = resume op k s) := by
  cases hr : s.resetIn with
  | true => exact .inl (step_of_resetIn hr)
  | false =>
    cases hq : s.seq with
    | faulted => exact .inr (.inl (step_of_faulted hq hr))
    | run op k => exact .inr (.inr (.inr (.inr ⟨op, k, rfl, by simp [step, stepBlock, hr, hq]⟩)))
    | idle =>
      cases hi : s.inbox with
      | nil => exact .inr (.inl (step_of_no_request hr hq hi))
      | cons a rest =>
        rw [step_of_presented hr hq hi]
        obtain hrefused | ⟨op, o, hexec⟩ := fetch_cases a rest s
        · exact .inr (.inr (.inl hrefused))
        · exact .inr (.inr (.inr (.inl ⟨rfl, op, o, rest, hexec⟩)))

/-- The induction over a step: what block reset establishes, taking a request in IDLE keeps, and executing and going
on keep, every step keeps. -/
theorem step_keeps {P : State → Prop} (hreset : ∀ s, P s → P (blockReset s))
    (htaken : ∀ o rest s, s.seq = .idle → P s → P (taken o rest s))
    (hexec : ∀ op s t, P s → execOp op s = .next t → P t)
    (hresume : ∀ op k s t, s.seq = .run op k → P s → resume op k s = .next t → P t)
    {s t : State} (hs : P s) (h : step s = .next t) : P t := by
  obtain heq | heq | ⟨why, heq⟩ | ⟨hidle, op, o, rest, heq⟩ | ⟨op, k, hseq, heq⟩ := step_cases s <;> rw [heq] at h
  · cases h
    exact hreset s hs
  · cases h
    exact hs
  · cases h
  · exact hexec op _ t (htaken o rest s hidle hs) h
  · exact hresume op k s t hseq hs h

end Sys2Proof.Machine
end

section
/-! SUPPORT. The state the run of a program has come to when it ends, stops or pauses (00_scope.md R14, 10_state.md
R28), in closed form; the two obligations that follow from it alone. -/

namespace Sys2Proof.Machine

/-! ## A part of a program that has been run -/

/-- The state after a part of a program that nothing stopped, each wait run out: its writes are made and its events
emitted. -/
def ranOn (ms : List Micro) (s : State) : State := emitted (programEvents s.cfg s.aw ms) (writtenBy ms s)

@[simp] theorem ranOn_cfg (ms : List Micro) (s : State) : (ranOn ms s).cfg = s.cfg := emitted_cfg _ _
@[simp] theorem ranOn_payload (ms : List Micro) (s : State) : (ranOn ms s).payload = s.payload := emitted_payload _ _
@[simp] theorem ranOn_busy (ms : List Micro) (s : State) : (ranOn ms s).busy = s.busy := emitted_busy _ _
@[simp] theorem ranOn_ready (ms : List Micro) (s : State) : (ranOn ms s).ready = s.ready := emitted_ready _ _
@[simp] theorem ranOn_fault (ms : List Micro) (s : State) : (ranOn ms s).fault = s.fault := emitted_fault _ _
@[simp] theorem ranOn_trace (ms : List Micro) (s : State) :
    (ranOn ms s).trace = s.trace ++ done (programEvents s.cfg s.aw ms) := emitted_trace _ _
@[simp] theorem ranOn_aw (ms : List Micro) (s : State) : (ranOn ms s).aw = (lastWindow s.cfg ms).getD s.aw :=
  emitted_aw _ _
@[simp] theorem ranOn_awValid (ms : List Micro) (s : State) :
    (ranOn ms s).awValid = ((lastWindow s.cfg ms).isSome || s.awValid) := emitted_awValid _ _

theorem pinsOf_ranOn (ms : List Micro) (s : State) :
    pinsOf (ranOn ms s) = pinsAfter (pinsOf s) (programEvents s.cfg s.aw ms) := pinsOf_emitted _ _

theorem ranOn_timer (ms : List Micro) {s : State} (h : s.timer = 0) : (ranOn ms s).timer = 0 :=
  emitted_timer (s := writtenBy ms s) h

theorem ranOn_seq (ms : List Micro) {s : State} {op : Op} {k : Nat} (h : s.seq = .run op k) :
    (ranOn ms s).seq = .run op (k + eventCount ms) := by
  rw [← programEvents_length s.cfg s.aw ms]
  exact emitted_seq (s := writtenBy ms s) h

@[simp] theorem takeAnswer_faultCause (e : Event) (s : State) : (takeAnswer e s).faultCause = s.faultCause := by
  cases e <;> rfl
@[simp] theorem takeAnswer_faultInfo (e : Event) (s : State) : (takeAnswer e s).faultInfo = s.faultInfo := by
  cases e <;> rfl

theorem emitted_faultCause (es : List Event) (s : State) : (emitted es s).faultCause = s.faultCause := by
  induction es generalizing s with
  | nil => rfl
  | cons e es ih => simp [emitted, ih]

theorem emitted_faultInfo (es : List Event) (s : State) : (emitted es s).faultInfo = s.faultInfo := by
  induction es generalizing s with
  | nil => rfl
  | cons e es ih => simp [emitted, ih]

@[simp] theorem ranOn_faultCause (ms : List Micro) (s : State) : (ranOn ms s).faultCause = s.faultCause :=
  emitted_faultCause _ _
@[simp] theorem ranOn_faultInfo (ms : List Micro) (s : State) : (ranOn ms s).faultInfo = s.faultInfo :=
  emitted_faultInfo _ _

theorem programEvents_of_no_event (c : Cfg) (w : AddressWindow) {ms : List Micro} (h : eventCount ms = 0) :
    programEvents c w ms = [] :=
  List.eq_nil_of_length_eq_zero ((programEvents_length c w ms).trans h)

/-- Work between events takes no answer of the transport. -/
theorem ranOn_transport {ms : List Micro} (h : eventCount ms = 0) (s : State) :
    (ranOn ms s).transport = s.transport := by
  rw [ranOn, programEvents_of_no_event _ _ h]
  rfl

/-- One micro step that goes on, then the rest. -/
theorem ranOn_of_perform_go {m : Micro} {s s' : State} (ht : s.timer = 0) (h : perform m s = .go s') (ms : List Micro) :
    ranOn ms (settleWait s') = ranOn (m :: ms) s := by
  have hcfg : (emitted (eventOf s.aw m).toList (writtenBy [m] s)).cfg = s.cfg := emitted_cfg _ _
  have haw : (emitted (eventOf s.aw m).toList (writtenBy [m] s)).aw = (windowOf s.cfg m).getD s.aw := emitted_aw _ _
  rw [settleWait_of_perform_go ht h, ranOn, hcfg, haw, writtenBy_emitted, ← emitted_append, ← writtenBy_cons]
  rfl

@[simp] theorem ranOn_nil (s : State) : ranOn [] s = s := rfl

theorem writtenBy_append (ms ns : List Micro) (s : State) :
    writtenBy (ms ++ ns) s = writtenBy ns (writtenBy ms s) := by
  cases hns : lastWindow s.cfg ns <;>
    simp [writtenBy, worked, workAfter_append, lastWindow_append, hns]

theorem ranOn_append (ms ns : List Micro) (s : State) : ranOn (ms ++ ns) s = ranOn ns (ranOn ms s) := by
  rw [ranOn, programEvents_append, emitted_append, writtenBy_append, ← writtenBy_emitted]
  rw [ranOn, ranOn_cfg, ranOn_aw]
  rfl

theorem passes_of_perform_go {m : Micro} {s s' : State} (h : perform m s = .go s') : passes s.cfg m = true := by
  cases m with
  | window x0 y0 x1 y1 =>
    obtain ⟨hin, -⟩ | ⟨-, hhalt⟩ := openWindow_cases x0 y0 x1 y1 s
    · exact hin
    · cases hhalt.symm.trans h
  | glyphPixel x y row col =>
    obtain ⟨hin, -⟩ | ⟨-, hhalt⟩ := openWindow_cases (x + col) (y + row) (x + col) (y + row) (pixelReached row col s)
    · exact hin
    · cases hhalt.symm.trans h
  | awaitPayload => cases h
  | _ => rfl

/-! ## Where a run has come to (R14, R28) -/

/-- The run of `ms` from `s`, in which no wait is counted, has come to `t`: to the completion, to a micro step that
stops it, or to an event after which it pauses. At the event grain no event is emitted before that. -/
inductive RunsTo (g : Grain) (op : Op) (ms : List Micro) (s t : State) : Prop
  | completed (hone : g = .event → eventCount ms = 0) (hpass : ms.all (passes s.cfg) = true)
      (ht : t = complete op (ranOn ms s))
  | stopped (pre : List Micro) (m : Micro) (post : List Micro) (hms : ms = pre ++ m :: post)
      (hone : g = .event → eventCount pre = 0) (hpass : pre.all (passes s.cfg) = true)
      (hstop : perform m (ranOn pre s) = .halt t)
  | paused (pre : List Micro) (m : Micro) (post : List Micro) (hms : ms = pre ++ m :: post)
      (hone : g = .event → eventCount pre = 0) (hpass : pre.all (passes s.cfg) = true)
      (hevent : isEvent m = true) (hgo : perform m (ranOn pre s) = .go t)

theorem eventCount_cons_of_work {m : Micro} (h : isEvent m = false) (ms : List Micro) :
    eventCount (m :: ms) = eventCount ms := by simp [eventCount, h]

theorem RunsTo.cons {g : Grain} {op : Op} {m : Micro} {ms : List Micro} {s s' t : State} (ht : s.timer = 0)
    (hgo : perform m s = .go s') (hm : g = .event → isEvent m = false) (h : RunsTo g op ms (settleWait s') t) :
    RunsTo g op (m :: ms) s t := by
  have hcfg : (settleWait s').cfg = s.cfg := (perform_go_pins hgo).1
  have hall {ns : List Micro} (hns : ns.all (passes (settleWait s').cfg) = true) :
      (m :: ns).all (passes s.cfg) = true := by
    rw [hcfg] at hns
    rw [List.all_cons, passes_of_perform_go hgo, hns, Bool.and_self]
  have hcount {ns : List Micro} (hns : g = .event → eventCount ns = 0) : g = .event → eventCount (m :: ns) = 0 :=
    fun hg => (eventCount_cons_of_work (hm hg) ns).trans (hns hg)
  cases h with
  | completed hone hpass heq =>
    exact .completed (hcount hone) (hall hpass) (by rw [heq, ranOn_of_perform_go ht hgo])
  | stopped pre m' post hms hone hpass hstop =>
    rw [ranOn_of_perform_go ht hgo] at hstop
    exact .stopped (m :: pre) m' post (congrArg (m :: ·) hms) (hcount hone) (hall hpass) hstop
  | paused pre m' post hms hone hpass hevent hgo' =>
    rw [ranOn_of_perform_go ht hgo] at hgo'
    exact .paused (m :: pre) m' post (congrArg (m :: ·) hms) (hcount hone) (hall hpass) hevent hgo'

theorem runsTo_of_runMicros {op : Op} {ms : List Micro} {s t : State} (ht : s.timer = 0)
    (h : runMicros op ms s = .next t) : RunsTo .operation op ms s t := by
  induction ms generalizing s with
  | nil => exact .completed (fun hg => nomatch hg) rfl (Host.Outcome.next.inj h).symm
  | cons m ms ih =>
    cases hm : perform m s with
    | go s' => exact .cons ht hm (fun hg => nomatch hg) (ih rfl (runMicros_go op m ms s s' hm ▸ h))
    | halt s' =>
      cases (runMicros_halt op m ms s s' hm).symm.trans h
      exact .stopped [] m ms rfl (fun hg => nomatch hg) rfl hm
    | broken f => cases (runMicros_broken op m ms s f hm).symm.trans h

theorem runsTo_of_runOneEvent {op : Op} {ms : List Micro} {s t : State} (ht : s.timer = 0)
    (h : runOneEvent op ms s = .next t) : RunsTo .event op ms s t := by
  induction ms generalizing s with
  | nil => exact .completed (fun _ => rfl) rfl (Host.Outcome.next.inj h).symm
  | cons m ms ih =>
    cases hm : perform m s with
    | go s' =>
      cases he : isEvent m with
      | true =>
        cases (runOneEvent_go_event op m ms s s' hm he).symm.trans h
        exact .paused [] m ms rfl (fun _ => rfl) rfl he hm
      | false =>
        rw [runOneEvent_go_work op m ms s s' hm he] at h
        obtain ⟨hevent, -⟩ | ⟨-, -, work, rfl⟩ := perform_go_cases hm
        · exact absurd hevent (by simp [he])
        · refine .cons ht hm (fun _ => he) ?_
          rw [settleWait_of_timer_zero (s := afterWork m work s) ht]
          exact ih (s := afterWork m work s) ht h
    | halt s' =>
      cases (runOneEvent_halt op m ms s s' hm).symm.trans h
      exact .stopped [] m ms rfl (fun _ => rfl) rfl hm
    | broken f => cases (runOneEvent_broken op m ms s f hm).symm.trans h

/-- Going on with a running operation counts a tick of its wait, or runs what is left of its program. -/
theorem runsTo_of_resume {op : Op} {k : Nat} {s t : State} (h : resume op k s = .next t) :
    t = tick s ∨ RunsTo s.grain op (afterEvents k (opProgram op s.cfg s.payload)) (settleWait s) t := by
  cases hg : s.grain with
  | operation => exact .inr (runsTo_of_runMicros rfl (by simpa [resume, hg] using h))
  | event =>
    by_cases ht : s.timer = 0
    · rw [settleWait_of_timer_zero ht]
      exact .inr (runsTo_of_runOneEvent ht (by simpa [resume, hg, ht] using h))
    · exact .inl (by simpa [resume, hg, ht] using h.symm)

/-- An operation at the sequencer is not accepted, takes the fault of its check, is begun, or is begun and its program
run. -/
theorem execOp_cases {op : Op} {s t : State} (h : execOp op s = .next t) :
    (s.seq ≠ .idle ∧ t = s) ∨ (s.seq = .idle ∧ ∃ v, opViolation op s.cfg s.latches = some v ∧ t = raise v s) ∨
    (CanAccept s ∧ opViolation op s.cfg s.latches = none ∧
      (t = begin op s ∨ RunsTo .operation op (opProgram op s.cfg s.payload) (begin op s) t)) := by
  rw [execOp_eq_accept] at h
  obtain ⟨hs, heq⟩ | ⟨-, -, heq⟩ | ⟨hcan, v, hv, heq⟩ | ⟨hcan, hv, heq⟩ := accept_cases op _ _ s <;> rw [heq] at h
  · exact .inl ⟨hs, (Host.Outcome.next.inj h).symm⟩
  · cases h
  · exact .inr (.inl ⟨hcan.1, v, hv, (Host.Outcome.next.inj h).symm⟩)
  · refine .inr (.inr ⟨hcan, hv, ?_⟩)
    cases hg : s.grain with
    | operation => exact .inr (runsTo_of_runMicros rfl (by simpa [launch, hg] using h))
    | event => exact .inl (by simpa [launch, hg] using h.symm)

/-- A micro step that stops raises a fault, the configuration, READY and the timer as they were, or waits. -/
theorem raise_of_perform_halt {m : Micro} {u t : State} (h : perform m u = .halt t) :
    (∃ v w, t = raise v w ∧ w.cfg = u.cfg ∧ w.ready = u.ready ∧ w.timer = u.timer) ∨ (m = .awaitPayload ∧ t = u) := by
  obtain ⟨bs, sent, rest, -, rfl⟩ | ⟨x, y, work, rfl⟩ | hwait := perform_halt_cases h
  · exact .inl ⟨_, _, rfl, rfl, rfl, rfl⟩
  · exact .inl ⟨_, _, rfl, rfl, rfl, rfl⟩
  · exact .inr hwait

/-- Only a WAIT loads the timer (R232). -/
theorem timer_of_perform_go {m : Micro} {u t : State} (h : perform m u = .go t) :
    t.timer = u.timer ∨ m = .emit (.wait t.timer) := by
  cases m with
  | emit e =>
    rw [emit_go h]
    cases e with
    | wait n => exact .inr rfl
    | _ => exact .inl rfl
  | columnPayload => exact .inl (by rw [emitPosition_go h]; rfl)
  | rowPayload => exact .inl (by rw [emitPosition_go h]; rfl)
  | window x0 y0 x1 y1 => exact .inl (by rw [openWindow_go h]; rfl)
  | glyphPixel x y row col => exact .inl (by rw [openWindow_go (s := pixelReached row col u) h]; rfl)
  | remaining n => exact .inl (by rw [← Progress.go.inj h])
  | cursor chari cur => exact .inl (by rw [← Progress.go.inj h])
  | awaitPayload => cases h

/-- The operation is on its way: a first part of `ms` has been run from `s`, and at most the wait its last event began
is still to be counted in `t`. -/
structure OnTheWay (ms : List Micro) (s t : State) (pre post : List Micro) : Prop where
  parts : ms = pre ++ post
  ne_nil : ms ≠ []
  settled : settleWait t = ranOn pre s
  timer : t.timer = 0 ∨ .emit (.wait t.timer) ∈ ms

section OnTheWay

variable {ms pre post : List Micro} {s t : State} (h : OnTheWay ms s t pre post)
include h

theorem OnTheWay.cfg_eq : t.cfg = s.cfg := by simpa using congrArg State.cfg h.settled

theorem OnTheWay.ready_eq : t.ready = s.ready := by simpa using congrArg State.ready h.settled

theorem OnTheWay.seq_eq {op : Op} {k : Nat} (hs : s.seq = .run op k) : t.seq = .run op (k + eventCount pre) := by
  simpa [ranOn_seq pre hs] using congrArg State.seq h.settled

end OnTheWay

/-- Whatever the transport answers, a run completes, takes a fault or is on its way. -/
theorem RunsTo.cases {g : Grain} {op : Op} {ms : List Micro} {s t : State} (hs : s.timer = 0) (h : RunsTo g op ms s t) :
    t = complete op (ranOn ms s) ∨
    (∃ v w, t = raise v w ∧ w.cfg = s.cfg ∧ w.ready = s.ready ∧ w.timer = 0) ∨
    (∃ pre post, OnTheWay ms s t pre post) := by
  cases h with
  | completed _ _ heq => exact .inl heq
  | stopped pre m post hms _ _ hstop =>
    have htimer := ranOn_timer pre hs
    obtain ⟨v, w, heq, hcfg, hready, hw⟩ | ⟨-, rfl⟩ := raise_of_perform_halt hstop
    · exact .inr (.inl ⟨v, w, heq, hcfg.trans (ranOn_cfg _ _), hready.trans (ranOn_ready _ _), hw.trans htimer⟩)
    · exact .inr (.inr ⟨pre, m :: post, hms, by simp [hms], settleWait_of_timer_zero htimer, .inl htimer⟩)
  | paused pre m post hms _ _ _ hgo =>
    have htimer := ranOn_timer pre hs
    refine .inr (.inr ⟨pre ++ [m], post, by simp [hms], by simp [hms], ?_, ?_⟩)
    · rw [ranOn_append, ← ranOn_of_perform_go htimer hgo [], ranOn_nil]
    · obtain hsame | hwait := timer_of_perform_go hgo
      · exact .inl (hsame.trans htimer)
      · exact .inr (by rw [← hwait, hms]; exact List.mem_append_right _ List.mem_cons_self)

/-! ## CFG (R21) -/

theorem RunsTo.cfg_eq {g : Grain} {op : Op} {ms : List Micro} {s t : State} (hs : s.timer = 0)
    (h : RunsTo g op ms s t) : t.cfg = s.cfg := by
  obtain rfl | ⟨v, w, rfl, hcfg, -, -⟩ | ⟨pre, post, hway⟩ := h.cases hs
  · simp
  · simpa using hcfg
  · exact hway.cfg_eq

theorem cfg_of_execOp {op : Op} {s t : State} (h : execOp op s = .next t) : t.cfg = s.cfg := by
  obtain ⟨-, rfl⟩ | ⟨-, v, -, rfl⟩ | ⟨-, -, rfl | hrun⟩ := execOp_cases h
  · rfl
  · rfl
  · rfl
  · exact (hrun.cfg_eq rfl :)

theorem cfg_of_resume {op : Op} {k : Nat} {s t : State} (h : resume op k s = .next t) : t.cfg = s.cfg := by
  obtain rfl | hrun := runsTo_of_resume h
  · rfl
  · exact (hrun.cfg_eq rfl :)

/-- Settles O51: neither executing nor going on writes CFG, and block reset keeps it. -/
theorem configurationNeverChanges : Obligations.ConfigurationNeverChanges := fun s _ h =>
  step_keeps (P := fun u => u.cfg = s.cfg) (fun _ hu => hu) (fun o _ _ _ hu => (takeOffer_cfg o _).trans hu)
    (fun _ _ _ hu hexec => (cfg_of_execOp hexec).trans hu)
    (fun _ _ _ _ _ hu hresume => (cfg_of_resume hresume).trans hu) rfl h

/-! ## READY (R31) -/

/-- A run of a program that completes leaves READY as the completion makes it, any other as it was. -/
theorem RunsTo.ready_cases {g : Grain} {op : Op} {ms : List Micro} {s t : State} (hs : s.timer = 0)
    (h : RunsTo g op ms s t) :
    (t.seq = .idle ∧ t.ready = readyAtCompletion op s.ready) ∨
    ((∀ k, s.seq = .run op k → t.seq ≠ .idle) ∧ t.ready = s.ready) := by
  obtain rfl | ⟨v, w, rfl, -, hready, -⟩ | ⟨pre, post, hway⟩ := h.cases hs
  · exact .inl ⟨rfl, by simp⟩
  · exact .inr ⟨fun _ _ => by simp, by simpa using hready⟩
  · refine .inr ⟨fun k hk => ?_, ?_⟩
    · simp [hway.seq_eq hk]
    · exact hway.ready_eq

theorem readyAtCompletion_of_not_initialize {op : Op} (h : isInitialize op = false) (ready : Bool) :
    readyAtCompletion op ready = ready := by simp [readyAtCompletion, h]

theorem readyAtCompletion_of_initialize {op : Op} (h : isInitialize op = true) (ready : Bool) :
    readyAtCompletion op ready = true := by simp [readyAtCompletion, h]

theorem readyAtAcceptance_eq (op : Op) (ready : Bool) :
    readyAtAcceptance op ready = if isInitialize op then false else ready := rfl

theorem RunsTo.ready_eq {g : Grain} {op : Op} {ms : List Micro} {s t : State} (hop : isInitialize op = false)
    (hs : s.timer = 0) (h : RunsTo g op ms s t) : t.ready = s.ready := by
  obtain ⟨-, hready⟩ | ⟨-, hready⟩ := h.ready_cases hs
  · exact hready.trans (readyAtCompletion_of_not_initialize hop _)
  · exact hready

theorem RunsTo.ready_of_initialize {g : Grain} {op : Op} {ms : List Micro} {s t : State} {k : Nat}
    (hop : isInitialize op = true) (hs : s.timer = 0) (hseq : s.seq = .run op k) (h : RunsTo g op ms s t) :
    (t.seq = .idle → t.ready = true) ∧ (t.seq ≠ .idle → t.ready = s.ready) := by
  obtain ⟨hidle, hready⟩ | ⟨hrunning, hready⟩ := h.ready_cases hs
  · exact ⟨fun _ => hready.trans (readyAtCompletion_of_initialize hop _), fun hne => absurd hidle hne⟩
  · exact ⟨fun hidle => absurd hidle (hrunning k hseq), fun _ => hready⟩

theorem opViolation_of_initialize {op : Op} (h : isInitialize op = true) (c : Cfg) (l : Latches) :
    opViolation op c l = none := by
  obtain rfl | rfl : op = .row .initializePanel ∨ op = .call .initializePanel := by simpa [isInitialize] using h
  · rfl
  · rfl

/-- Settles O34: the run of a program writes READY at the completion only, and the acceptance of the panel's
initialization, which has no check to fail, clears it. -/
theorem readyIsWrittenOnlyByInitialize : Obligations.ReadyIsWrittenOnlyByInitialize := by
  refine ⟨fun op s t hop h => ?_, fun op k s t hop h => ?_, fun op s t hop hcan h => ?_, fun op k s t hop hseq h => ?_⟩
  · have hbegin : (begin op s).ready = s.ready := by simp [readyAtAcceptance_eq, hop]
    obtain ⟨-, rfl⟩ | ⟨-, v, -, rfl⟩ | ⟨-, -, rfl | hrun⟩ := execOp_cases h
    · rfl
    · rfl
    · exact hbegin
    · exact (hrun.ready_eq hop rfl).trans hbegin
  · obtain rfl | hrun := runsTo_of_resume h
    · rfl
    · exact (hrun.ready_eq hop rfl :)
  · have hbegin : (begin op s).ready = false := by simp [readyAtAcceptance_eq, hop]
    obtain ⟨hne, -⟩ | ⟨-, v, hv, -⟩ | ⟨-, -, rfl | hrun⟩ := execOp_cases h
    · exact absurd hcan.1 hne
    · simp [opViolation_of_initialize hop] at hv
    · exact ⟨fun hidle => by simp at hidle, fun _ => hbegin⟩
    · rw [← hbegin]
      exact hrun.ready_of_initialize hop rfl (begin_seq op s)
  · obtain rfl | hrun := runsTo_of_resume h
    · exact ⟨fun hidle => by simp [hseq] at hidle, fun _ => rfl⟩
    · exact hrun.ready_of_initialize (s := settleWait s) hop rfl hseq

end Sys2Proof.Machine
end

section
/-! SUPPORT. What every operation's program is: a first part of its expansion, and then the wait if its payload is
short (00_scope.md R14, 20_memory.md R66); its waits, and where it reads AW (10_state.md R26). -/

namespace Sys2Proof.Machine

/-! ## The wait for payload stands last, and only where payload is short (R66) -/

/-- The program ends with the wait for payload if fewer than `needed` bytes are supplied, and has no other. -/
def WaitsLast (needed : Nat) (payload : List Byte) (ms : List Micro) : Prop :=
  ∃ before, .awaitPayload ∉ before ∧
    ms = before ++ (if needed ≤ payload.length then [] else [.awaitPayload])

theorem WaitsLast.of_notMem {needed : Nat} {payload : List Byte} {ms : List Micro} (hp : needed ≤ payload.length)
    (h : .awaitPayload ∉ ms) : WaitsLast needed payload ms := ⟨ms, h, by simp [hp]⟩

theorem WaitsLast.of_short {needed : Nat} {payload : List Byte} {before : List Micro} (hp : payload.length < needed)
    (h : .awaitPayload ∉ before) : WaitsLast needed payload (before ++ [.awaitPayload]) :=
  ⟨before, h, by simp [Nat.not_le.mpr hp]⟩

theorem WaitsLast.append_left {needed : Nat} {payload : List Byte} {ms ns : List Micro} (h : .awaitPayload ∉ ms)
    (h' : WaitsLast needed payload ns) : WaitsLast needed payload (ms ++ ns) := by
  obtain ⟨before, hbefore, rfl⟩ := h'
  exact ⟨ms ++ before, by simp [h, hbefore], (List.append_assoc _ _ _).symm⟩

theorem waitsLast_programSendCommand (opcode : Option Byte) (plen : U32) (payload : List Byte) :
    WaitsLast plen.toNat payload (programSendCommand opcode plen payload) := by
  by_cases hp : plen.toNat ≤ payload.length
  · rw [programSendCommand, payloadBytes_of_le hp]
    exact .of_notMem hp (awaitPayload_notMem_emitAll _)
  · rw [programSendCommand, payloadBytes_of_lt (Nat.lt_of_not_le hp)]
    exact starvedTransaction_eq opcode ▸ .of_short (Nat.lt_of_not_le hp) (awaitPayload_notMem_emitAll _)

theorem waitsLast_programBlit (x y w h : Int) (plen : U32) (payload : List Byte) :
    WaitsLast plen.toNat payload (programBlit x y w h plen payload) := by
  refine .append_left (awaitPayload_notMem_programWindow _ _ _ _) ?_
  by_cases hp : plen.toNat ≤ payload.length
  · rw [payloadBytes_of_le hp]
    exact .of_notMem hp (awaitPayload_notMem_emitAll _)
  · rw [payloadBytes_of_lt (Nat.lt_of_not_le hp)]
    exact starvedTransaction_eq none ▸ .of_short (Nat.lt_of_not_le hp) (awaitPayload_notMem_emitAll _)

theorem waitsLast_programDrawText (c : Cfg) (plen : U32) (x y : Int) (color : U16) (payload : List Byte) :
    WaitsLast plen.toNat payload (programDrawText c plen x y color payload) := by
  refine .append_left (awaitPayload_notMem_programText c y color _ _ _) ?_
  by_cases hp : plen.toNat ≤ payload.length
  · rw [payloadBytes_of_le hp]
    exact .of_notMem hp List.not_mem_nil
  · rw [payloadBytes_of_lt (Nat.lt_of_not_le hp)]
    exact .of_short (before := []) (Nat.lt_of_not_le hp) List.not_mem_nil

theorem waitsLast_program (i : Instr) (c : Cfg) (payload : List Byte) :
    WaitsLast (payloadNeeded i) payload (program i c payload) := by
  cases i with
  | sendCommandCmd opcode => exact waitsLast_programSendCommand (some opcode) 0 payload
  | sendCommandCmdData opcode plen => exact waitsLast_programSendCommand (some opcode) plen payload
  | sendCommandData plen => exact waitsLast_programSendCommand none plen payload
  | sendCommandNone => exact .of_notMem (Nat.zero_le _) List.not_mem_nil
  | reserved op => exact .of_notMem (Nat.zero_le _) List.not_mem_nil
  | setAddressWindow x0 y0 x1 y1 => exact .of_notMem (Nat.zero_le _) (awaitPayload_notMem_programWindow _ _ _ _)
  | drawPixel x y color =>
    exact .of_notMem (Nat.zero_le _) (awaitPayload_notMem_requestProgram (.drawPixel x.toNat y.toNat color) c)
  | fillRectangle x y w h color => exact .of_notMem (Nat.zero_le _) (awaitPayload_notMem_programFill c _ _ _ _ color)
  | fillScreen color => exact .of_notMem (Nat.zero_le _) (awaitPayload_notMem_programFill c _ _ _ _ color)
  | blitBuffer x y w h plen => exact waitsLast_programBlit _ _ _ _ plen payload
  | initializePanel => exact .of_notMem (Nat.zero_le _) (awaitPayload_notMem_requestProgram .initializePanel c)
  | drawChar code x y color => exact .of_notMem (Nat.zero_le _) (awaitPayload_notMem_programDrawChar c _ _ _ color)
  | drawText plen x y color => exact waitsLast_programDrawText c plen _ _ color payload
  | _ => exact .of_notMem (Nat.zero_le _) (awaitPayload_notMem_emitAll _)

theorem waitsLast_opProgram (op : Op) (c : Cfg) (payload : List Byte) :
    WaitsLast (opPayloadNeeded op) payload (opProgram op c payload) := by
  cases op with
  | row i => exact waitsLast_program i c payload
  | call r => exact .of_notMem (Nat.zero_le _) (awaitPayload_notMem_requestProgram r c)

section WaitsLast

variable {needed : Nat} {payload : List Byte} {ms : List Micro} (h : WaitsLast needed payload ms)
include h

theorem WaitsLast.short_of_mem (hmem : .awaitPayload ∈ ms) : payload.length < needed := by
  obtain ⟨before, hbefore, rfl⟩ := h
  by_contra hp
  simp [Nat.not_lt.mp hp, hbefore] at hmem

theorem WaitsLast.nothing_after {pre post : List Micro} (hms : ms = pre ++ .awaitPayload :: post) : post = [] := by
  have hshort := h.short_of_mem (hms ▸ List.mem_append_right _ List.mem_cons_self)
  obtain ⟨before, hbefore, rfl⟩ := h
  rw [if_neg (Nat.not_le.mpr hshort)] at hms
  obtain hnil | ⟨post', m, rfl⟩ := List.eq_nil_or_concat' post
  · exact hnil
  · rw [← List.cons_append, ← List.append_assoc] at hms
    obtain ⟨rfl, -⟩ := List.append_inj' hms rfl
    exact absurd (List.mem_append_right _ List.mem_cons_self) hbefore

end WaitsLast

/-- What stands after the first `k` events is still to be run. -/
theorem mem_afterEvents_concat (m : Micro) {k : Nat} {ms : List Micro}
    (hk : k ≤ eventCount ms) : m ∈ afterEvents k (ms ++ [m]) := by
  induction ms generalizing k with
  | nil =>
    obtain rfl : k = 0 := Nat.le_zero.mp hk
    exact List.mem_singleton_self m
  | cons m' ms ih =>
    cases k with
    | zero => exact List.mem_append_right _ (List.mem_singleton_self m)
    | succ k =>
      cases hm' : isEvent m' with
      | true => simpa [afterEvents, hm'] using ih (k := k) (by simpa [eventCount, hm'] using hk)
      | false => simpa [afterEvents, hm'] using ih (k := k + 1) (by simpa [eventCount, hm'] using hk)

theorem WaitsLast.supplied_of_notMem {needed k : Nat} {payload : List Byte} {ms : List Micro}
    (h : WaitsLast needed payload ms) (hk : k ≤ eventCount ms) (hmem : .awaitPayload ∉ afterEvents k ms) :
    needed ≤ payload.length := by
  obtain ⟨before, -, rfl⟩ := h
  by_contra hp
  rw [if_neg hp] at hk hmem
  exact hmem (mem_afterEvents_concat _ (by simpa [eventCount, isEvent] using hk))

/-! ## The events of a program are a first part of the expansion (R14) -/

/-- With its payload short the program reads AW as with it supplied, and emits the events before the wait. -/
theorem opProgram_shape (op : Op) (c : Cfg) (payload : List Byte) :
    readsWindowFirst (opProgram op c payload) = false ∧
      ∀ w, programEvents c w (opProgram op c payload) <+: opExpand op c payload := by
  by_cases hp : opPayloadNeeded op ≤ payload.length
  · have hemits := emits_opProgram op c payload hp
    exact ⟨hemits.writesFirst, fun w => by rw [hemits.events w]⟩
  · cases op with
    | call r => exact absurd (Nat.zero_le _) hp
    | row i =>
      obtain ⟨before, es, hpause⟩ := exists_pausesAfter c (Nat.lt_of_not_le hp)
      obtain ⟨rest, hrest⟩ := hpause.expand_eq
      have hprogram : opProgram (.row i) c payload = before ++ [.awaitPayload] := hpause.program_eq
      have hexpand : opExpand (.row i) c payload = es ++ rest := hrest
      rw [hprogram, hexpand]
      refine ⟨readsWindowFirst_append hpause.emits.writesFirst rfl, fun w => ?_⟩
      rw [programEvents_append, hpause.emits.events w]
      exact (List.append_nil es).symm ▸ List.prefix_append es rest

theorem readsWindowFirst_opProgram (op : Op) (c : Cfg) (payload : List Byte) :
    readsWindowFirst (opProgram op c payload) = false := (opProgram_shape op c payload).1

theorem programEvents_opProgram_prefix (op : Op) (c : Cfg) (w : AddressWindow) (payload : List Byte) :
    programEvents c w (opProgram op c payload) <+: opExpand op c payload := (opProgram_shape op c payload).2 w

/-! ## The waits of a program (R232, R270) -/

theorem mem_waits {n : Nat} {es : List Event} : n ∈ waits es ↔ .wait n ∈ es := by
  induction es with
  | nil => simp [waits]
  | cons e es ih => cases e <;> simp [waits, ih]

theorem mem_programEvents_of_emit {e : Event} {ms : List Micro} (h : .emit e ∈ ms) (c : Cfg) (w : AddressWindow) :
    e ∈ programEvents c w ms := by
  induction ms generalizing w with
  | nil => cases h
  | cons m ms ih =>
    rw [programEvents]
    obtain rfl | hms := List.mem_cons.mp h
    · exact List.mem_append_left _ (List.mem_singleton_self e)
    · exact List.mem_append_right _ (ih hms _)

/-- No wait of the trace is longer than the 500 ms the delay timer is made for (R232). -/
def WaitsFit (es : List Event) : Prop := ∀ n ∈ waits es, n ≤ 500

theorem OfTransactions.waitsFit {es : List Event} (h : OfTransactions es) : WaitsFit es := by
  simp [WaitsFit, h.waits_eq_nil]

theorem waitsFit_expandHardReset : WaitsFit expandHardReset := by
  rw [WaitsFit]
  decide

theorem waitsFit_expandSoftReset : WaitsFit expandSoftReset := by
  rw [WaitsFit]
  decide

theorem waitsFit_expandInitialize (c : Cfg) : WaitsFit (expandInitialize c) := by
  rw [WaitsFit, waits_expandInitialize]
  decide

theorem waitsFit_opExpand (op : Op) (c : Cfg) (payload : List Byte) : WaitsFit (opExpand op c payload) := by
  cases op with
  | row i =>
    by_cases hhard : i = .hardReset
    · exact hhard ▸ waitsFit_expandHardReset
    by_cases hsoft : i = .softReset
    · exact hsoft ▸ waitsFit_expandSoftReset
    by_cases hinit : i = .initializePanel
    · exact hinit ▸ waitsFit_expandInitialize c
    exact (ofTransactions_expand hhard hsoft hinit c payload).waitsFit
  | call r =>
    by_cases hhard : r = .hardReset
    · exact hhard ▸ waitsFit_expandHardReset
    by_cases hsoft : r = .softReset
    · exact hsoft ▸ waitsFit_expandSoftReset
    by_cases hinit : r = .initializePanel
    · exact hinit ▸ waitsFit_expandInitialize c
    exact (ofTransactions_requestExpand hhard hsoft hinit c).waitsFit

theorem wait_le_of_mem_opProgram {op : Op} {c : Cfg} {payload : List Byte} {n : Nat}
    (h : .emit (.wait n) ∈ opProgram op c payload) : n ≤ 500 := by
  have hevent := mem_programEvents_of_emit h c ⟨0, 0, 0, 0⟩
  exact waitsFit_opExpand op c payload n (mem_waits.mpr ((programEvents_opProgram_prefix op c _ payload).mem hevent))

end Sys2Proof.Machine
end

section
/-! SUPPORT. The status flags, the fault registers and the timer along a step (10_state.md R31, R32; 60_exceptions.md
R232). -/

namespace Sys2Proof.Machine

theorem causeCode_bounds (cause : Cause) : 1 ≤ (causeCode cause).toNat ∧ (causeCode cause).toNat ≤ 4 := by
  cases cause <;> decide

/-- Fault entry sets FAULT and a cause of R32, whatever the flags were (R224). -/
theorem statusInv_raise (v : Violation) {s : State} (ht : s.timer ≤ 500) : StatusInv (raise v s) :=
  ⟨rfl, rfl, fun h => Bool.noConfusion h, fun _ => causeCode_bounds v.cause, ht⟩

theorem StatusInv.timer_le {s : State} (h : StatusInv s) : s.timer ≤ 500 := by
  obtain ⟨-, -, -, -, htimer⟩ := h
  exact htimer

/-- The flags and fault registers while an operation runs. -/
def FlagsOfRunning (s : State) : Prop :=
  s.busy = true ∧ s.fault = false ∧ s.faultCause = 0 ∧ s.faultInfo = 0

theorem StatusInv.flagsOfRunning {s : State} {op : Op} {k : Nat} (h : StatusInv s) (hs : s.seq = .run op k) :
    FlagsOfRunning s := by
  obtain ⟨hbusy, hfault, hregisters, -, -⟩ := h
  rw [hs, isRunning] at hbusy
  rw [hs, isFaulted] at hfault
  exact ⟨hbusy, hfault, hregisters hfault⟩

theorem StatusInv.flagsOfRunning_begin {s : State} (op : Op) (h : StatusInv s) (hs : s.seq = .idle) :
    FlagsOfRunning (begin op s) := by
  obtain ⟨-, hfault, hregisters, -, -⟩ := h
  rw [hs, isFaulted] at hfault
  exact ⟨rfl, hfault, hregisters hfault⟩

theorem FlagsOfRunning.statusInv {s : State} {op : Op} {k : Nat} (h : FlagsOfRunning s) (hs : s.seq = .run op k)
    (ht : s.timer ≤ 500) : StatusInv s := by
  obtain ⟨hbusy, hfault, hregisters⟩ := h
  exact ⟨by rw [hbusy, hs]; rfl, by rw [hfault, hs]; rfl, fun _ => hregisters, by simp [hfault], ht⟩

theorem FlagsOfRunning.statusInv_complete {s : State} (op : Op) (h : FlagsOfRunning s) (ht : s.timer ≤ 500) :
    StatusInv (complete op s) := by
  obtain ⟨-, hfault, hregisters⟩ := h
  exact ⟨rfl, hfault, fun _ => hregisters, by simp [hfault], ht⟩

theorem FlagsOfRunning.ranOn {s : State} (ms : List Micro) (h : FlagsOfRunning s) : FlagsOfRunning (ranOn ms s) := by
  simpa [FlagsOfRunning] using h

theorem RunsTo.statusInv {g : Grain} {op : Op} {ms : List Micro} {s t : State} {k : Nat} (h : RunsTo g op ms s t)
    (hs : s.timer = 0) (hseq : s.seq = .run op k) (hflags : FlagsOfRunning s)
    (hwaits : ∀ n, .emit (.wait n) ∈ ms → n ≤ 500) : StatusInv t := by
  obtain rfl | ⟨v, w, rfl, -, -, hw⟩ | ⟨pre, post, hway⟩ := h.cases hs
  · exact (hflags.ranOn ms).statusInv_complete op (by simp [ranOn_timer ms hs])
  · exact statusInv_raise v (by simp [hw])
  · have hran : FlagsOfRunning (settleWait t) := hway.settled ▸ hflags.ranOn pre
    have hbound : t.timer ≤ 500 := hway.timer.elim (by omega) (hwaits _)
    exact FlagsOfRunning.statusInv (s := t) hran (hway.seq_eq hseq) hbound

theorem statusInv_of_execOp {op : Op} {s t : State} (hs : StatusInv s) (h : execOp op s = .next t) : StatusInv t := by
  obtain ⟨-, rfl⟩ | ⟨-, v, -, rfl⟩ | ⟨hcan, -, rfl | hrun⟩ := execOp_cases h
  · exact hs
  · exact statusInv_raise v hs.timer_le
  · exact (hs.flagsOfRunning_begin op hcan.1).statusInv (begin_seq op s) (Nat.zero_le _)
  · exact hrun.statusInv rfl (begin_seq op s) (hs.flagsOfRunning_begin op hcan.1)
      fun _ hmem => wait_le_of_mem_opProgram hmem

theorem mem_of_mem_afterEvents {m : Micro} {k : Nat} {ms : List Micro} (h : m ∈ afterEvents k ms) : m ∈ ms := by
  rw [← upToEvents_append_afterEvents k ms]
  exact List.mem_append_right _ h

theorem statusInv_of_resume {op : Op} {k : Nat} {s t : State} (hseq : s.seq = .run op k) (hs : StatusInv s)
    (h : resume op k s = .next t) : StatusInv t := by
  have hflags := hs.flagsOfRunning hseq
  obtain rfl | hrun := runsTo_of_resume h
  · have htick : s.timer - 1 ≤ 500 := (Nat.sub_le _ _).trans hs.timer_le
    exact FlagsOfRunning.statusInv (s := tick s) hflags hseq htick
  · exact hrun.statusInv (s := settleWait s) rfl hseq hflags
      fun _ hmem => wait_le_of_mem_opProgram (mem_of_mem_afterEvents hmem)

/-- Settles O53: taking a request touches no flag, and a run that begins with the flags of a running operation ends
with those of the position it has come to. -/
theorem stepKeepsTheStatusInvariant : Obligations.StepKeepsTheStatusInvariant := fun _ _ hs h =>
  step_keeps (P := StatusInv) (fun u _ => statusInv_blockReset u)
    (fun o rest u _ hu => by simpa [StatusInv, taken] using hu)
    (fun _ _ _ hu hexec => statusInv_of_execOp hu hexec)
    (fun _ _ _ _ hseq hu hresume => statusInv_of_resume hseq hu hresume) hs h

end Sys2Proof.Machine
end

section
/-! SUPPORT. Where the sequencer stands in the program of the running operation, AW and the pins there, and that a
run keeps all three (10_state.md R24, R26, R28). -/

namespace Sys2Proof.Machine

/-! ## The position (R28) -/

/-- The sequencer stands between the parts `pre` and `post` of the program of the running operation. -/
structure StandsAt (op : Op) (pre post : List Micro) (s : State) : Prop where
  program : opProgram op s.cfg s.payload = pre ++ post
  seq : s.seq = .run op (eventCount pre)

theorem eventCount_append (ms ns : List Micro) : eventCount (ms ++ ns) = eventCount ms + eventCount ns :=
  List.countP_append

theorem eventCount_upToEvents {k : Nat} {ms : List Micro} (h : k ≤ eventCount ms) :
    eventCount (upToEvents k ms) = k := by
  induction ms generalizing k with
  | nil => rw [Nat.le_zero.mp h]; rfl
  | cons m ms ih =>
    cases k with
    | zero => rfl
    | succ k =>
      cases hm : isEvent m with
      | true => simpa [upToEvents, eventCount, hm] using ih (k := k) (by simpa [eventCount, hm] using h)
      | false => simpa [upToEvents, eventCount, hm] using ih (k := k + 1) (by simpa [eventCount, hm] using h)

theorem le_eventCount_of_afterEvents_ne_nil {k : Nat} {ms : List Micro} (h : afterEvents k ms ≠ []) :
    k ≤ eventCount ms := by
  induction ms generalizing k with
  | nil =>
    cases k with
    | zero => exact Nat.le_refl 0
    | succ k => exact absurd rfl h
  | cons m ms ih =>
    cases k with
    | zero => exact Nat.zero_le _
    | succ k =>
      cases hm : isEvent m with
      | true => simpa [eventCount, hm] using ih (k := k) (by simpa [afterEvents, hm] using h)
      | false => simpa [eventCount, hm] using ih (k := k + 1) (by simpa [afterEvents, hm] using h)

theorem standsAt_of_le {op : Op} {k : Nat} {s : State} (hs : s.seq = .run op k)
    (hk : k ≤ eventCount (opProgram op s.cfg s.payload)) :
    StandsAt op (upToEvents k (opProgram op s.cfg s.payload)) (afterEvents k (opProgram op s.cfg s.payload)) s :=
  ⟨(upToEvents_append_afterEvents _ _).symm, by rw [eventCount_upToEvents hk, hs]⟩

theorem standsAt_begin (op : Op) (s : State) : StandsAt op [] (opProgram op s.cfg s.payload) (begin op s) :=
  ⟨rfl, rfl⟩

theorem StandsAt.ranOn {op : Op} {pre ms post : List Micro} {s : State} (h : StandsAt op pre (ms ++ post) s) :
    StandsAt op (pre ++ ms) post (ranOn ms s) :=
  ⟨by simp [h.program], by rw [ranOn_seq ms h.seq, eventCount_append]⟩

theorem StandsAt.of_settleWait {op : Op} {pre post : List Micro} {s : State} (h : StandsAt op pre post (settleWait s)) :
    StandsAt op pre post s := ⟨h.program, h.seq⟩

theorem StandsAt.onTheWay {op : Op} {before pre post ms : List Micro} {s t : State} (h : StandsAt op before ms s)
    (hway : OnTheWay ms s t pre post) : StandsAt op (before ++ pre) post t := by
  have hran : StandsAt op (before ++ pre) post (Machine.ranOn pre s) := .ranOn (hway.parts ▸ h)
  exact .of_settleWait (hway.settled ▸ hran)

theorem StandsAt.positionInv {op : Op} {pre post : List Micro} {s : State} (h : StandsAt op pre post s) :
    PositionInv s := by
  simp [PositionInv, h.seq, h.program, eventCount_append]

/-- The two parts of the program, by the number of events emitted: work after the last of them is run again. -/
theorem StandsAt.afterEvents_eq {op : Op} {pre post : List Micro} {s : State} (h : StandsAt op pre post s) :
    afterEvents (eventCount pre) (opProgram op s.cfg s.payload) = afterEvents (eventCount pre) pre ++ post := by
  rw [h.program, afterEvents_eventCount_append]

theorem StandsAt.upToEvents_eq {op : Op} {pre post : List Micro} {s : State} (h : StandsAt op pre post s) :
    upToEvents (eventCount pre) (opProgram op s.cfg s.payload) = upToEvents (eventCount pre) pre := by
  have hwhole := upToEvents_append_afterEvents (eventCount pre) (opProgram op s.cfg s.payload)
  rw [h.afterEvents_eq, h.program, ← List.append_assoc] at hwhole
  have hpre := (List.append_cancel_right hwhole).trans (upToEvents_append_afterEvents (eventCount pre) pre).symm
  rw [h.program]
  exact List.append_cancel_right hpre

/-! ## The address window there (R26) -/

/-- Where the program reads AW before it writes it, AW has been written and holds the last window of the part that
has been run. -/
def WindowAt (pre post : List Micro) (s : State) : Prop :=
  readsWindowFirst post = true → s.awValid = true ∧ lastWindow s.cfg pre = some s.aw

theorem windowInv_iff {op : Op} {k : Nat} {s : State} (hs : s.seq = .run op k) :
    WindowInv s ↔ WindowAt (upToEvents k (opProgram op s.cfg s.payload))
      (afterEvents k (opProgram op s.cfg s.payload)) s := by
  simp only [WindowInv, hs, WindowAt]

/-- Every program writes AW before it reads it. -/
theorem windowAt_opProgram (op : Op) (s u : State) : WindowAt [] (opProgram op s.cfg s.payload) u := by
  intro h
  rw [readsWindowFirst_opProgram] at h
  cases h

theorem readsWindowFirst_append_of_no_window {c : Cfg} {ms ns : List Micro} (hms : lastWindow c ms = none)
    (h : readsWindowFirst ns = true) : readsWindowFirst (ms ++ ns) = true := by
  induction ms with
  | nil => exact h
  | cons m ms ih =>
    obtain ⟨hrest, hm⟩ : lastWindow c ms = none ∧ windowOf c m = none := by
      rw [lastWindow] at hms
      split at hms
      · cases hms
      · next hrest => exact ⟨hrest, hms⟩
    exact readsWindowFirst_cons hm (ih hrest)

theorem WindowAt.ranOn {pre ms post : List Micro} {s : State} (h : WindowAt pre (ms ++ post) s) :
    WindowAt (pre ++ ms) post (ranOn ms s) := by
  intro hread
  rw [ranOn_cfg, ranOn_aw, ranOn_awValid, lastWindow_append]
  cases hms : lastWindow s.cfg ms with
  | some w => exact ⟨rfl, rfl⟩
  | none => simpa using h (readsWindowFirst_append_of_no_window hms hread)

theorem WindowAt.onTheWay {before pre post ms : List Micro} {s t : State} (h : WindowAt before ms s)
    (hway : OnTheWay ms s t pre post) : WindowAt (before ++ pre) post t := by
  have hran : WindowAt (before ++ pre) post (Machine.ranOn pre s) := .ranOn (hway.parts ▸ h)
  rw [← hway.settled] at hran
  exact hran

theorem isEvent_of_mem_afterEvents {m : Micro} {ms : List Micro} (h : m ∈ afterEvents (eventCount ms) ms) :
    isEvent m = false := by
  have hcount := congrArg eventCount (upToEvents_append_afterEvents (eventCount ms) ms)
  rw [eventCount_append, eventCount_upToEvents (Nat.le_refl _)] at hcount
  have hzero : eventCount (afterEvents (eventCount ms) ms) = 0 := by omega
  simpa using List.countP_eq_zero.mp hzero m h

/-- Work that is followed by a read of AW before any write writes none itself. -/
theorem no_window_of_readsWindowFirst {c : Cfg} {ms ns : List Micro} (hms : ∀ m ∈ ms, isEvent m = false)
    (h : readsWindowFirst (ms ++ ns) = true) : lastWindow c ms = none ∧ readsWindowFirst ns = true := by
  induction ms with
  | nil => exact ⟨rfl, h⟩
  | cons m ms ih =>
    have hm := hms m List.mem_cons_self
    have hrest (h' : readsWindowFirst (ms ++ ns) = true) := ih (fun m' hm' => hms m' (List.mem_cons_of_mem m hm')) h'
    cases m with
    | window x0 y0 x1 y1 => cases h
    | glyphPixel x y row col => cases h
    | remaining n => exact ⟨by rw [lastWindow, (hrest h).1]; rfl, (hrest h).2⟩
    | cursor chari cur => exact ⟨by rw [lastWindow, (hrest h).1]; rfl, (hrest h).2⟩
    | awaitPayload => exact ⟨by rw [lastWindow, (hrest h).1]; rfl, (hrest h).2⟩
    | _ => cases hm

theorem WindowAt.windowInv {op : Op} {pre post : List Micro} {s : State} (h : WindowAt pre post s)
    (hat : StandsAt op pre post s) : WindowInv s := by
  rw [windowInv_iff hat.seq, hat.afterEvents_eq, hat.upToEvents_eq]
  intro hread
  obtain ⟨hnone, hpost⟩ := no_window_of_readsWindowFirst (c := s.cfg) (fun _ => isEvent_of_mem_afterEvents) hread
  obtain ⟨hvalid, hlast⟩ := h hpost
  rw [← upToEvents_append_afterEvents (eventCount pre) pre, lastWindow_append, hnone, Option.none_or] at hlast
  exact ⟨hvalid, hlast⟩

/-! ## A program that finds AW written is not stopped by a fault of the model (R26, G8) -/

theorem emit_ne_broken (e : Event) (s : State) (f : Fault) : emit e s ≠ .broken f := by
  obtain ⟨h, -⟩ | ⟨_, _, _, -, -, h⟩ := emit_cases e s <;> simp [h]

theorem emitPosition_ne_broken {a b : U16} {s : State} (hv : s.awValid = true) (f : Fault) :
    emitPosition a b s ≠ .broken f := by
  rw [emitPosition, if_pos hv]
  exact emit_ne_broken _ s f

theorem openWindow_ne_broken (x0 y0 x1 y1 : Int) (s : State) (f : Fault) : openWindow x0 y0 x1 y1 s ≠ .broken f := by
  obtain ⟨-, h⟩ | ⟨-, h⟩ := openWindow_cases x0 y0 x1 y1 s <;> simp [h]

theorem perform_ne_broken {m : Micro} {ms : List Micro} {s : State}
    (hread : readsWindowFirst (m :: ms) = true → s.awValid = true) (f : Fault) : perform m s ≠ .broken f := by
  cases m with
  | emit e => exact emit_ne_broken e s f
  | columnPayload => exact emitPosition_ne_broken (hread rfl) f
  | rowPayload => exact emitPosition_ne_broken (hread rfl) f
  | window x0 y0 x1 y1 => exact openWindow_ne_broken x0 y0 x1 y1 s f
  | glyphPixel x y row col => exact openWindow_ne_broken _ _ _ _ (pixelReached row col s) f
  | remaining n => nofun
  | cursor chari cur => nofun
  | awaitPayload => nofun

theorem awValid_of_perform_go {m : Micro} {ms : List Micro} {s s' : State}
    (hread : readsWindowFirst (m :: ms) = true → s.awValid = true) (h : perform m s = .go s')
    (hms : readsWindowFirst ms = true) : s'.awValid = true := by
  obtain ⟨-, hw, e, -, rfl⟩ | ⟨-, -, work, rfl⟩ := perform_go_cases h
  · simpa using hread (readsWindowFirst_cons hw hms)
  · exact awValid_afterWork work hread hms

theorem exists_next_of_runMicros (op : Op) {ms : List Micro} {s : State}
    (hread : readsWindowFirst ms = true → s.awValid = true) : ∃ t, runMicros op ms s = .next t := by
  induction ms generalizing s with
  | nil => exact ⟨_, rfl⟩
  | cons m ms ih =>
    cases hm : perform m s with
    | go s' =>
      rw [runMicros_go op m ms s s' hm]
      have hread' : readsWindowFirst ms = true → s'.awValid = true := awValid_of_perform_go hread hm
      exact ih (s := settleWait s') hread'
    | halt s' => exact ⟨s', runMicros_halt op m ms s s' hm⟩
    | broken f => exact absurd hm (perform_ne_broken hread f)

theorem exists_next_of_runOneEvent (op : Op) {ms : List Micro} {s : State}
    (hread : readsWindowFirst ms = true → s.awValid = true) : ∃ t, runOneEvent op ms s = .next t := by
  induction ms generalizing s with
  | nil => exact ⟨_, rfl⟩
  | cons m ms ih =>
    cases hm : perform m s with
    | go s' =>
      cases he : isEvent m with
      | true => exact ⟨s', runOneEvent_go_event op m ms s s' hm he⟩
      | false =>
        rw [runOneEvent_go_work op m ms s s' hm he]
        exact ih (awValid_of_perform_go hread hm)
    | halt s' => exact ⟨s', runOneEvent_halt op m ms s s' hm⟩
    | broken f => exact absurd hm (perform_ne_broken hread f)

theorem exists_next_of_resume {op : Op} {k : Nat} {s : State} (hseq : s.seq = .run op k) (h : WindowInv s) :
    ∃ t, resume op k s = .next t := by
  have hread := fun hr => ((windowInv_iff hseq).mp h hr).1
  cases hg : s.grain with
  | operation => simpa [resume, hg] using exists_next_of_runMicros op (s := settleWait s) hread
  | event =>
    by_cases ht : s.timer = 0
    · simpa [resume, hg, ht] using exists_next_of_runOneEvent op hread
    · exact ⟨tick s, by simp [resume, hg, ht]⟩

theorem launch_ne_fault (op : Op) {ms : List Micro} (hms : readsWindowFirst ms = false) (s : State) (f : Fault) :
    launch op ms s ≠ .fault f := by
  cases hg : s.grain with
  | operation =>
    obtain ⟨t, ht⟩ := exists_next_of_runMicros op (ms := ms) (s := begin op s) (by simp [hms])
    simp [launch, hg, ht]
  | event => simp [launch, hg]

theorem execOp_ne_fault (op : Op) (s : State) (f : Fault) : execOp op s ≠ .fault f := by
  rw [execOp_eq_accept]
  obtain ⟨-, h⟩ | ⟨-, -, h⟩ | ⟨-, v, -, h⟩ | ⟨-, -, h⟩ := accept_cases op _ _ s <;> rw [h]
  · nofun
  · nofun
  · nofun
  · exact launch_ne_fault op (readsWindowFirst_opProgram op s.cfg s.payload) s f

/-! ## The events left there are those of the expansion (R14, R28) -/

theorem programEvents_congr {ms : List Micro} (h : readsWindowFirst ms = false) (c : Cfg) (w w' : AddressWindow) :
    programEvents c w ms = programEvents c w' ms := by
  induction ms with
  | nil => rfl
  | cons m ms ih =>
    cases m with
    | columnPayload => cases h
    | rowPayload => cases h
    | window x0 y0 x1 y1 => rfl
    | glyphPixel x y row col => rfl
    | emit e => exact congrArg (e :: ·) (ih h)
    | remaining n => exact ih h
    | cursor chari cur => exact ih h
    | awaitPayload => exact ih h

theorem WindowAt.programEvents_eq {pre post : List Micro} {s : State} (h : WindowAt pre post s) :
    programEvents s.cfg s.aw (pre ++ post) = programEvents s.cfg s.aw pre ++ programEvents s.cfg s.aw post := by
  rw [programEvents_append]
  cases hread : readsWindowFirst post with
  | true => rw [(h hread).2, Option.getD_some]
  | false => rw [programEvents_congr hread]

/-- The events of what is left of the program are the next ones of the expansion. -/
theorem StandsAt.programEvents_prefix {op : Op} {pre post : List Micro} {s : State} (hat : StandsAt op pre post s)
    (hwindow : WindowAt pre post s) :
    programEvents s.cfg s.aw post <+: (opExpand op s.cfg s.payload).drop (eventCount pre) := by
  obtain ⟨rest, hrest⟩ := programEvents_opProgram_prefix op s.cfg s.aw s.payload
  rw [hat.program, hwindow.programEvents_eq, List.append_assoc] at hrest
  rw [← hrest, ← programEvents_length s.cfg s.aw pre, List.drop_left]
  exact List.prefix_append _ _

/-- The first events of the expansion, up to the position a run of the next part of the program comes to. -/
theorem StandsAt.take_opExpand {op : Op} {before pre post : List Micro} {s : State}
    (hat : StandsAt op before (pre ++ post) s) (hwindow : WindowAt before (pre ++ post) s) :
    (opExpand op s.cfg s.payload).take (eventCount (before ++ pre)) =
      (opExpand op s.cfg s.payload).take (eventCount before) ++ programEvents s.cfg s.aw pre := by
  have hnext := hat.programEvents_prefix hwindow
  rw [programEvents_append] at hnext
  rw [eventCount_append, List.take_add, ← programEvents_length s.cfg s.aw pre,
    ← List.prefix_iff_eq_take.mp ((List.prefix_append _ _).trans hnext)]

/-! ## The pins there (R24, R30) -/

/-- The pins are what the events emitted so far made of some levels. -/
def PinsAt (op : Op) (pre : List Micro) (s : State) : Prop :=
  ∃ p, pinsOf s = pinsAfter p ((opExpand op s.cfg s.payload).take (eventCount pre))

theorem pinsInv_iff {op : Op} {pre post : List Micro} {s : State} (h : StandsAt op pre post s) :
    PinsInv s ↔ PinsAt op pre s := by
  simp only [PinsInv, h.seq, PinsAt]

theorem PinsAt.ranOn {op : Op} {before pre post : List Micro} {s : State} (h : PinsAt op before s)
    (hat : StandsAt op before (pre ++ post) s) (hwindow : WindowAt before (pre ++ post) s) :
    PinsAt op (before ++ pre) (ranOn pre s) := by
  obtain ⟨p, hp⟩ := h
  refine ⟨p, ?_⟩
  rw [pinsOf_ranOn, ranOn_cfg, ranOn_payload, hat.take_opExpand hwindow, pinsAfter_append, hp]

theorem PinsAt.onTheWay {op : Op} {before pre post ms : List Micro} {s t : State} (h : PinsAt op before s)
    (hat : StandsAt op before ms s) (hwindow : WindowAt before ms s) (hway : OnTheWay ms s t pre post) :
    PinsAt op (before ++ pre) t := by
  have hran : PinsAt op (before ++ pre) (Machine.ranOn pre s) := h.ranOn (hway.parts ▸ hat) (hway.parts ▸ hwindow)
  rw [← hway.settled] at hran
  exact hran

/-! ## The three invariants after a step (R24, R26, R28) -/

/-- What is claimed of a running operation: its position, AW and the pins. -/
structure RunningInv (s : State) : Prop where
  position : PositionInv s
  window : WindowInv s
  pins : PinsInv s

theorem runningInv_of_at {op : Op} {pre post : List Micro} {s : State} (hat : StandsAt op pre post s)
    (hwindow : WindowAt pre post s) (hpins : PinsAt op pre s) : RunningInv s :=
  ⟨hat.positionInv, hwindow.windowInv hat, (pinsInv_iff hat).mpr hpins⟩

/-- In IDLE and in FAULTED nothing is claimed. -/
theorem runningInv_of_not_running {s : State} (h : isRunning s.seq = false) : RunningInv s := by
  cases hs : s.seq with
  | run op k => simp [hs, isRunning] at h
  | _ => exact ⟨by simp [PositionInv, hs], by simp [WindowInv, hs], by simp [PinsInv, hs]⟩

/-- An operation that is accepted and begun stands at its first event. -/
theorem runningInv_of_execOp {op : Op} {s t : State} (h : execOp op s = .next t) : t = s ∨ RunningInv t := by
  have hat := standsAt_begin op s
  have hwindow := windowAt_opProgram op s (begin op s)
  have hpins : PinsAt op [] (begin op s) := ⟨_, rfl⟩
  obtain ⟨-, rfl⟩ | ⟨-, v, -, rfl⟩ | ⟨-, -, rfl | hrun⟩ := execOp_cases h
  · exact .inl rfl
  · exact .inr (runningInv_of_not_running rfl)
  · exact .inr (runningInv_of_at hat hwindow hpins)
  · obtain rfl | ⟨v, w, rfl, -⟩ | ⟨pre, post, hway⟩ := hrun.cases rfl
    · exact .inr (runningInv_of_not_running rfl)
    · exact .inr (runningInv_of_not_running rfl)
    · exact .inr (runningInv_of_at (hat.onTheWay hway) (hwindow.onTheWay hway) (hpins.onTheWay hat hwindow hway))

/-- A running operation that is gone on with has had a tick of its wait counted, runs no longer, or has run on from
where it stood. -/
theorem resume_cases {op : Op} {k : Nat} {s t : State} (hs : s.seq = .run op k) (h : resume op k s = .next t) :
    t = tick s ∨ isRunning t.seq = false ∨
    (StandsAt op (upToEvents k (opProgram op s.cfg s.payload)) (afterEvents k (opProgram op s.cfg s.payload)) s ∧
      ∃ pre post, OnTheWay (afterEvents k (opProgram op s.cfg s.payload)) (settleWait s) t pre post) := by
  obtain heq | hrun := runsTo_of_resume h
  · exact .inl heq
  · obtain rfl | ⟨v, w, rfl, -⟩ | ⟨pre, post, hway⟩ := hrun.cases rfl
    · exact .inr (.inl rfl)
    · exact .inr (.inl rfl)
    · exact .inr (.inr ⟨standsAt_of_le hs (le_eventCount_of_afterEvents_ne_nil hway.ne_nil), pre, post, hway⟩)

theorem StandsAt.settleWait {op : Op} {pre post : List Micro} {s : State} (h : StandsAt op pre post s) :
    StandsAt op pre post (settleWait s) := ⟨h.program, h.seq⟩

theorem positionInv_of_resume {op : Op} {k : Nat} {s t : State} (hseq : s.seq = .run op k) (hs : PositionInv s)
    (h : resume op k s = .next t) : PositionInv t := by
  obtain rfl | hstopped | ⟨hat, pre, post, hway⟩ := resume_cases hseq h
  · exact hs
  · exact (runningInv_of_not_running hstopped).position
  · exact (hat.settleWait.onTheWay hway).positionInv

theorem windowInv_of_resume {op : Op} {k : Nat} {s t : State} (hseq : s.seq = .run op k) (hs : WindowInv s)
    (h : resume op k s = .next t) : WindowInv t := by
  obtain rfl | hstopped | ⟨hat, pre, post, hway⟩ := resume_cases hseq h
  · exact hs
  · exact (runningInv_of_not_running hstopped).window
  · have hwindow := WindowAt.onTheWay (s := settleWait s) ((windowInv_iff hseq).mp hs) hway
    exact hwindow.windowInv (hat.settleWait.onTheWay hway)

theorem runningInv_of_resume {op : Op} {k : Nat} {s t : State} (hseq : s.seq = .run op k) (hs : RunningInv s)
    (h : resume op k s = .next t) : RunningInv t := by
  obtain rfl | hstopped | ⟨hat, pre, post, hway⟩ := resume_cases hseq h
  · exact ⟨hs.position, hs.window, hs.pins⟩
  · exact runningInv_of_not_running hstopped
  · have hw : WindowAt _ _ (settleWait s) := (windowInv_iff hseq).mp hs.window
    have hp : PinsAt op _ (settleWait s) := (pinsInv_iff hat).mp hs.pins
    exact runningInv_of_at (hat.settleWait.onTheWay hway) (hw.onTheWay hway) (hp.onTheWay hat.settleWait hw hway)

/-- The induction over a step for what is claimed of a running operation. -/
theorem step_keeps_of_running {P : State → Prop} (hrunning : ∀ s, RunningInv s → P s)
    (hresume : ∀ op k s t, s.seq = .run op k → P s → resume op k s = .next t → P t) {s t : State} (hs : P s)
    (h : step s = .next t) : P t := by
  refine step_keeps (fun u _ => hrunning _ (runningInv_of_not_running rfl))
    (fun o rest u hidle _ => hrunning _ (runningInv_of_not_running ?_)) (fun op u v hu hexec => ?_) hresume hs h
  · simp [taken, hidle, isRunning]
  · obtain rfl | hv := runningInv_of_execOp hexec
    · exact hu
    · exact hrunning v hv

/-- Settles O54: a running operation that is gone on with comes to a later position of the same program, and the
events between are the next ones of the expansion. -/
theorem stepKeepsThePositionBounded : Obligations.StepKeepsThePositionBounded := by
  refine ⟨fun s t hs h => ?_, fun s t hposition hwindow hpins h => ?_⟩
  · exact step_keeps_of_running (P := PositionInv) (fun _ hu => hu.position)
      (fun _ _ _ _ hseq hu hresume => positionInv_of_resume hseq hu hresume) hs h
  · have hinv : RunningInv t := step_keeps_of_running (P := RunningInv) (fun _ hu => hu)
      (fun _ _ _ _ hseq hu hresume => runningInv_of_resume hseq hu hresume) ⟨hposition, hwindow, hpins⟩ h
    exact hinv.pins

/-- Settles O55: the part of the program that is run on writes AW before it reads it, or finds it as the invariant
says; no program reads AW first, so that no operation from its start needs the invariant. -/
theorem stepKeepsTheWindowWritten : Obligations.StepKeepsTheWindowWritten := by
  refine ⟨fun s t hs h => ?_, fun s f hs h => ?_, execOp_ne_fault⟩
  · exact step_keeps_of_running (P := WindowInv) (fun _ hu => hu.window)
      (fun _ _ _ _ hseq hu hresume => windowInv_of_resume hseq hu hresume) hs h
  · obtain heq | heq | ⟨why, heq⟩ | ⟨-, op, o, rest, heq⟩ | ⟨op, k, hseq, heq⟩ := step_cases s <;> rw [heq] at h
    · cases h
    · cases h
    · cases h
    · exact execOp_ne_fault op _ f h
    · obtain ⟨t, ht⟩ := exists_next_of_resume hseq hs
      cases ht.symm.trans h

end Sys2Proof.Machine
end

section
/-! SUPPORT. The step of the sequencer at the event grain, case by case (10_state.md R28, R30; 60_exceptions.md R223,
R226; 20_memory.md R66). -/

namespace Sys2Proof.Machine

/-! ## What stands before the next event (R163, R226) -/

/-- Work that passes is no bad window. -/
theorem opensBadWindow_append {c : Cfg} {ms : List Micro} (hcount : eventCount ms = 0)
    (hpass : ms.all (passes c) = true) (ns : List Micro) : opensBadWindow c (ms ++ ns) = opensBadWindow c ns := by
  induction ms with
  | nil => rfl
  | cons m ms ih =>
    obtain ⟨hm, hms⟩ : passes c m = true ∧ ms.all (passes c) = true := by simpa using hpass
    have hwork : isEvent m = false := by
      by_contra he
      simp [eventCount, he] at hcount
    have hrest := ih ((eventCount_cons_of_work hwork ms).symm.trans hcount) hms
    cases m with
    | window x0 y0 x1 y1 =>
      have hin : inWindow c x0 y0 x1 y1 = true := hm
      simp [opensBadWindow, hin, hrest]
    | glyphPixel x y row col =>
      have hin : inWindow c (x + col) (y + row) (x + col) (y + row) = true := hm
      simp [opensBadWindow, hin, hrest]
    | remaining n => exact hrest
    | cursor chari cur => exact hrest
    | awaitPayload => cases hm
    | _ => cases hwork

theorem opensBadWindow_cons_of_event (c : Cfg) {m : Micro} (h : isEvent m = true) (ms : List Micro) :
    opensBadWindow c (m :: ms) = false := by
  cases m with
  | emit e => rfl
  | columnPayload => rfl
  | rowPayload => rfl
  | _ => cases h

/-- A micro step that does not pass is the wait for payload, or it opens a window outside the panel and takes that
fault. -/
theorem perform_of_not_passes {m : Micro} {s : State} (h : passes s.cfg m = false) :
    m = .awaitPayload ∨
    ((∀ ms, opensBadWindow s.cfg (m :: ms) = true) ∧
      ∃ x y work, perform m s = .halt (raise ⟨.invalidGeometry, geometryInfo x y⟩ (worked s s.aw s.awValid work))) := by
  cases m with
  | awaitPayload => exact .inl rfl
  | window x0 y0 x1 y1 =>
    have hout : inWindow s.cfg x0 y0 x1 y1 = false := h
    refine .inr ⟨fun ms => by simp [opensBadWindow, hout], x0, y0, s.work, ?_⟩
    obtain ⟨hin, -⟩ | ⟨-, hhalt⟩ := openWindow_cases x0 y0 x1 y1 s
    · simp [hout] at hin
    · exact hhalt
  | glyphPixel x y row col =>
    have hout : inWindow s.cfg (x + col) (y + row) (x + col) (y + row) = false := h
    refine .inr ⟨fun ms => by simp [opensBadWindow, hout], x + col, y + row, (pixelReached row col s).work, ?_⟩
    obtain ⟨hin, -⟩ | ⟨-, hhalt⟩ := openWindow_cases (x + col) (y + row) (x + col) (y + row) (pixelReached row col s)
    · exact absurd (hout.symm.trans hin) Bool.false_ne_true
    · exact hhalt
  | _ => cases h

theorem isEvent_of_eventOf {w : AddressWindow} {m : Micro} {e : Event} (h : eventOf w m = some e) :
    isEvent m = true := by
  cases m with
  | emit e' => rfl
  | columnPayload => rfl
  | rowPayload => rfl
  | _ => cases h

/-! ## The next event (R28) -/

/-- The sequencer stands at event number `k` of the running operation, no wait is being counted, and `pre` is work
before the micro step `m`, nothing of which stops it. -/
structure AtEvent (op : Op) (k : Nat) (before pre : List Micro) (m : Micro) (post : List Micro) (s : State) :
    Prop where
  stands : StandsAt op before (pre ++ m :: post) s
  window : WindowAt before (pre ++ m :: post) s
  index : eventCount before = k
  timer : s.timer = 0
  work : eventCount pre = 0
  passes : pre.all (Machine.passes s.cfg) = true

theorem timer_emitDone (e : Event) {s : State} (h : s.timer = 0) :
    (emitDone e (takeAnswer e s)).timer = timerAfter e := by
  cases e with
  | wait n => rfl
  | _ => exact h

section AtEvent

variable {op : Op} {k : Nat} {s t : State} {before pre post : List Micro} {m : Micro}
variable (h : AtEvent op k before pre m post s)
include h

theorem AtEvent.seq_ranOn : (ranOn pre s).seq = .run op k := by
  simpa [h.work, h.index] using ranOn_seq pre h.stands.seq

theorem AtEvent.trace_ranOn : (ranOn pre s).trace = s.trace := by
  simp [programEvents_of_no_event _ _ h.work, done]

theorem AtEvent.pins_ranOn : pinsOf (ranOn pre s) = pinsOf s := by
  simp [pinsOf_ranOn, programEvents_of_no_event _ _ h.work, pinsAfter]

theorem AtEvent.opensBadWindow_eq : opensBadWindow s.cfg (pre ++ m :: post) = opensBadWindow s.cfg (m :: post) :=
  opensBadWindow_append h.work h.passes _

/-- The event of `m` is number `k` of the expansion. -/
theorem AtEvent.getElem?_opExpand {e : Event} (he : eventOf (ranOn pre s).aw m = some e) :
    (opExpand op s.cfg s.payload)[k]? = some e := by
  have hnext := h.stands.programEvents_prefix h.window
  rw [programEvents_append, programEvents_of_no_event _ _ h.work, ← ranOn_aw, List.nil_append, programEvents, he,
    h.index] at hnext
  obtain ⟨rest, hrest⟩ := hnext
  have hhead : ((opExpand op s.cfg s.payload).drop k)[0]? = some e := by
    rw [← hrest]
    rfl
  rwa [List.getElem?_drop, Nat.add_zero] at hhead

/-- A micro step that passes there emits its event, with the transport's answer still to take, or is work. -/
theorem AtEvent.perform_cases (hm : Machine.passes s.cfg m = true) :
    (∃ e, eventOf (ranOn pre s).aw m = some e ∧ perform m (ranOn pre s) = emit e (ranOn pre s)) ∨
    (isEvent m = false ∧ ∃ u, perform m (ranOn pre s) = .go u) := by
  obtain ⟨-, e, he, hperform⟩ | ⟨hnone, work, hperform⟩ := perform_cases_of_passes (m := m) (ms := post)
    (s := ranOn pre s) (by simpa using hm) fun hread => (h.window.ranOn hread).1
  · exact .inl ⟨e, he, hperform⟩
  · obtain ⟨-, -, e, he, -⟩ | ⟨hwork, -⟩ := perform_go_cases hperform
    · cases hnone.symm.trans he
    · exact .inr ⟨hwork, _, hperform⟩

/-- The step emits the event and moves on (R28, R30). -/
theorem AtEvent.emits (hevent : isEvent m = true) (hgo : perform m (ranOn pre s) = .go t) :
    opensBadWindow s.cfg (pre ++ m :: post) = false ∧ 0 < eventCount (pre ++ m :: post) ∧
      ∃ e, (opExpand op s.cfg s.payload)[k]? = some e ∧
        (∀ bs sent more, e = .tx bs → s.transport ≠ .fail sent :: more) ∧
        t.seq = .run op (k + 1) ∧ t.busy = s.busy ∧ t.trace = s.trace ++ [.done e] ∧
        pinsOf t = pinsAfter (pinsOf s) [e] ∧ t.timer = timerAfter e := by
  have hm : Machine.passes s.cfg m = true := by simpa using passes_of_perform_go hgo
  obtain ⟨e, he, hperform⟩ | ⟨hwork, -⟩ := h.perform_cases hm
  · have hemit := hperform.symm.trans hgo
    obtain rfl := emit_go hemit
    refine ⟨h.opensBadWindow_eq.trans (opensBadWindow_cons_of_event _ hevent post), ?_, e, h.getElem?_opExpand he,
      ?_, ?_, by simp, ?_, ?_, timer_emitDone e (ranOn_timer pre h.timer)⟩
    · simp [eventCount, hevent]
    · rintro bs sent more rfl hfail
      cases (emit_of_fail ((ranOn_transport h.work s).trans hfail)).symm.trans hemit
    · simp [h.seq_ranOn, advanceSeq]
    · simpa using h.trace_ranOn
    · rw [pinsOf_emitDone, h.pins_ranOn]
  · simp [hevent] at hwork

/-- The transport fails the event, which is a TX (R223). -/
theorem AtEvent.fails (hm : Machine.passes s.cfg m = true) (hstop : perform m (ranOn pre s) = .halt t) :
    opensBadWindow s.cfg (pre ++ m :: post) = false ∧
      ∃ bs sent more, (opExpand op s.cfg s.payload)[k]? = some (.tx bs) ∧
        s.transport = .fail sent :: more ∧ t.seq = .faulted ∧ t.faultCause = 4 ∧
        t.faultInfo = BitVec.ofNat 32 k ∧ t.trace = s.trace ++ [.failed bs sent] ∧ pinsOf t = pinsOf s := by
  obtain ⟨e, he, hperform⟩ | ⟨-, u, hgo⟩ := h.perform_cases hm
  · obtain ⟨bs, sent, more, rfl, hfail, rfl⟩ := emit_halt (hperform.symm.trans hstop)
    refine ⟨h.opensBadWindow_eq.trans (opensBadWindow_cons_of_event _ (isEvent_of_eventOf he) post), bs, sent, more,
      h.getElem?_opExpand he, (ranOn_transport h.work s).symm.trans hfail, rfl, rfl, ?_, ?_, h.pins_ranOn⟩
    · exact congrArg (fun q => BitVec.ofNat 32 (eventIndex q)) h.seq_ranOn
    · exact congrArg (· ++ [TraceEntry.failed bs sent]) h.trace_ranOn
  · cases hgo.symm.trans hstop

/-- The window to be opened is outside the panel (R163, R226). -/
theorem AtEvent.opensBadWindow (hbad : ∀ ms, Machine.opensBadWindow s.cfg (m :: ms) = true) {x y : Int} {work : Work}
    (ht : t = raise ⟨.invalidGeometry, geometryInfo x y⟩
      (worked (ranOn pre s) (ranOn pre s).aw (ranOn pre s).awValid work)) :
    Machine.opensBadWindow s.cfg (pre ++ m :: post) = true ∧ t.seq = .faulted ∧ t.faultCause = 2 ∧
      t.trace = s.trace ∧ pinsOf t = pinsOf s := by
  subst ht
  exact ⟨h.opensBadWindow_eq.trans (hbad post), rfl, rfl, h.trace_ranOn, h.pins_ranOn⟩

end AtEvent

/-- The block waits for the payload bytes the host has not supplied (R66). -/
theorem AtEvent.waits {op : Op} {k : Nat} {s : State} {before pre post : List Micro}
    (h : AtEvent op k before pre .awaitPayload post s) :
    eventCount (pre ++ .awaitPayload :: post) = 0 ∧ s.payload.length < opPayloadNeeded op ∧
      (ranOn pre s).seq = .run op k ∧ (ranOn pre s).busy = s.busy ∧ (ranOn pre s).trace = s.trace ∧
      pinsOf (ranOn pre s) = pinsOf s := by
  have hlast := waitsLast_opProgram op s.cfg s.payload
  have hprogram := h.stands.program
  have hmem : .awaitPayload ∈ opProgram op s.cfg s.payload := by simp [hprogram]
  have hpost : post = [] := hlast.nothing_after (pre := before ++ pre) (by simp [hprogram])
  refine ⟨?_, hlast.short_of_mem hmem, h.seq_ranOn, ranOn_busy pre s, h.trace_ranOn, h.pins_ranOn⟩
  rw [eventCount_append, h.work, hpost]
  rfl

/-- No event is left and the payload was supplied: the operation is complete (R28, R66). -/
theorem completes_of_no_event {op : Op} {k : Nat} {s : State} {ms : List Micro}
    (hk : k ≤ eventCount (opProgram op s.cfg s.payload)) (hms : ms = afterEvents k (opProgram op s.cfg s.payload))
    (hcount : eventCount ms = 0) (hpass : ms.all (passes s.cfg) = true) :
    opPayloadNeeded op ≤ s.payload.length ∧ (complete op (ranOn ms s)).trace = s.trace ∧
      pinsOf (complete op (ranOn ms s)) = pinsOf s := by
  have hmem : .awaitPayload ∉ ms := fun hmem => by
    have := List.all_eq_true.mp hpass _ hmem
    cases this
  refine ⟨(waitsLast_opProgram op s.cfg s.payload).supplied_of_notMem hk (hms ▸ hmem), ?_, ?_⟩
  · simp [programEvents_of_no_event _ _ hcount, done]
  · exact (pinsOf_ranOn ms s).trans (by rw [programEvents_of_no_event _ _ hcount, pinsAfter])

/-- Settles O44: the run of what is left of the program to its next event ends in one of the five ways. -/
theorem sequencerAdvancesOneEventAtATime : Obligations.SequencerAdvancesOneEventAtATime := by
  refine ⟨fun op s hcan hg hv => execOp_begins hcan hg hv, fun s op k rest hseq hg hr ht hposition hwindow hrest => ?_⟩
  have hk : k ≤ eventCount (opProgram op s.cfg s.payload) := by simpa [PositionInv, hseq] using hposition
  have hat := standsAt_of_le hseq hk
  have hw := (windowInv_iff hseq).mp hwindow
  have hstep := RunsByEvent.step_eq (op := op) (k := k) ⟨hseq, hg, hr⟩ ht
  rw [← hrest] at hat hw hstep
  obtain ⟨t, hnext⟩ := exists_next_of_runOneEvent op fun hread => (hw hread).1
  refine ⟨t, hstep.trans hnext, ?_⟩
  have hevent {pre post : List Micro} {m : Micro} (hms : rest = pre ++ m :: post) (hcount : eventCount pre = 0)
      (hpass : pre.all (passes s.cfg) = true) : AtEvent op k _ pre m post s :=
    ⟨hms ▸ hat, hms ▸ hw, eventCount_upToEvents hk, ht, hcount, hpass⟩
  cases runsTo_of_runOneEvent ht hnext with
  | completed hone hpass heq =>
    obtain ⟨hsupplied, htrace, hpins⟩ := completes_of_no_event hk hrest (hone rfl) hpass
    subst heq
    exact .inr (.inr (.inr (.inl ⟨hone rfl, hsupplied, rfl, rfl, htrace, hpins⟩)))
  | paused pre m post hms hone hpass he hgo =>
    have hemits := (hevent hms (hone rfl) hpass).emits he hgo
    exact .inl (hms ▸ hemits)
  | stopped pre m post hms hone hpass hstop =>
    have h := hevent hms (hone rfl) hpass
    cases hm : passes s.cfg m with
    | true => exact .inr (.inl (hms ▸ h.fails hm hstop))
    | false =>
      rw [← ranOn_cfg pre s] at hm
      obtain rfl | ⟨hbad, x, y, work, hhalt⟩ := perform_of_not_passes hm
      · obtain rfl : ranOn pre s = t := Progress.halt.inj hstop
        exact .inr (.inr (.inr (.inr (hms ▸ h.waits))))
      · rw [ranOn_cfg] at hbad
        have ht := Progress.halt.inj (hstop.symm.trans hhalt)
        exact .inr (.inr (.inl (hms ▸ h.opensBadWindow hbad ht)))

end Sys2Proof.Machine
end

section
/-! SUPPORT. The framing of the expansions (10_state.md R36, 40_framing.md R120): each is a walk from de-asserted
chip-select back to it, and a completed operation emits the whole of it. -/

namespace Sys2Proof.Machine

/-! ## Traces that are framed (R36) -/

/-- The walk along the trace, begun with chip-select de-asserted whatever the line's level, ends so; and the trace
begins by asserting chip-select, unless it is empty. -/
structure Framed (es : List Event) : Prop where
  walk : ∀ dc txs, ∃ dc' txs', bracketWalk ⟨false, dc, txs⟩ es = some ⟨false, dc', txs'⟩
  begins : es = [] ∨ ∃ rest, es = .cs true :: rest

theorem bracketWalk_append (b : Bracket) (es fs : List Event) :
    bracketWalk b (es ++ fs) = (bracketWalk b es).bind fun b' => bracketWalk b' fs := by
  induction es generalizing b with
  | nil => rfl
  | cons e es ih =>
    rw [List.cons_append, bracketWalk, bracketWalk]
    cases bracketStep b e with
    | none => rfl
    | some b' => exact ih b'

theorem Framed.nil : Framed [] := ⟨fun dc txs => ⟨dc, txs, rfl⟩, .inl rfl⟩

theorem Framed.append {es fs : List Event} (h : Framed es) (h' : Framed fs) : Framed (es ++ fs) := by
  refine ⟨fun dc txs => ?_, ?_⟩
  · obtain ⟨dc', txs', hes⟩ := h.walk dc txs
    rw [bracketWalk_append, hes]
    exact h'.walk dc' txs'
  · obtain rfl | ⟨rest, rfl⟩ := h.begins
    · exact h'.begins
    · exact .inr ⟨rest ++ fs, rfl⟩

theorem Framed.flatMap {α : Type} {f : α → List Event} {l : List α} (h : ∀ a ∈ l, Framed (f a)) :
    Framed (l.flatMap f) := by
  induction l with
  | nil => exact .nil
  | cons a l ih => exact (h a List.mem_cons_self).append (ih fun b hb => h b (List.mem_cons_of_mem a hb))

theorem Framed.wellFramed_eq_true {es : List Event} (h : Framed es) (dc : Bool) : wellFramed dc es = true := by
  obtain ⟨dc', txs', hes⟩ := h.walk dc 0
  rw [wellFramed, hes]
  rfl

theorem cs_pinsAfter_of_bracketStep {e : Event} {b b' : Bracket} {p : Pins} (hp : p.cs = b.cs)
    (h : bracketStep b e = some b') : (pinsAfter p [e]).cs = b'.cs := by
  cases e with
  | cs asserted =>
    cases asserted with
    | true =>
      obtain ⟨-, rfl⟩ : b.cs = false ∧ _ = b' := by simpa [bracketStep] using h
      rfl
    | false =>
      obtain ⟨-, rfl⟩ : b.cs = true ∧ _ = b' := by simpa [bracketStep] using h
      rfl
  | tx bs =>
    rw [bracketStep] at h
    split at h
    · cases h
      exact hp
    · cases h
  | _ =>
    cases h
    exact hp

/-- The walk follows the chip-select register. -/
theorem cs_pinsAfter_of_bracketWalk {es : List Event} {b b' : Bracket} {p : Pins} (hp : p.cs = b.cs)
    (h : bracketWalk b es = some b') : (pinsAfter p es).cs = b'.cs := by
  induction es generalizing b p with
  | nil =>
    cases h
    exact hp
  | cons e es ih =>
    rw [bracketWalk] at h
    split at h
    · next b'' hstep =>
      have hfirst : pinsAfter p (e :: es) = pinsAfter (pinsAfter p [e]) es := pinsAfter_append p [e] es
      rw [hfirst]
      exact ih (cs_pinsAfter_of_bracketStep hp hstep) h
    · cases h

/-- A framed trace leaves chip-select de-asserted; one that is not empty does so from any level. -/
theorem Framed.cs_pinsAfter {es : List Event} (h : Framed es) {p : Pins} (hp : es = [] → p.cs = false) :
    (pinsAfter p es).cs = false := by
  obtain ⟨dc', txs', hes⟩ := h.walk p.dc 0
  obtain rfl | ⟨rest, rfl⟩ := h.begins
  · exact hp rfl
  · exact cs_pinsAfter_of_bracketWalk (p := { p with cs := false }) rfl hes

/-! ## The expansions (R120, R140 to R203) -/

theorem framed_txn_command (op : Byte) : Framed (txn (some op) none) :=
  ⟨fun _ _ => ⟨_, _, rfl⟩, .inr ⟨_, rfl⟩⟩

theorem framed_txn_payload (opcode : Option Byte) {bs : List Byte} (h : bs ≠ []) :
    Framed (txn opcode (some bs)) := by
  obtain ⟨b, bs, rfl⟩ := List.exists_cons_of_ne_nil h
  cases opcode with
  | none => exact ⟨fun _ _ => ⟨_, _, rfl⟩, .inr ⟨_, rfl⟩⟩
  | some op => exact ⟨fun _ _ => ⟨_, _, rfl⟩, .inr ⟨_, rfl⟩⟩

theorem framed_expandSetAddressWindow (c : Cfg) (x0 y0 x1 y1 : Int) :
    Framed (expandSetAddressWindow c x0 y0 x1 y1) :=
  ((framed_txn_payload _ (List.cons_ne_nil _ _)).append (framed_txn_payload _ (List.cons_ne_nil _ _))).append
    (framed_txn_command _)

theorem framed_expandDrawPixel (c : Cfg) (x y : Int) (color : U16) : Framed (expandDrawPixel c x y color) :=
  (framed_expandSetAddressWindow c x y x y).append (framed_txn_payload none (List.cons_ne_nil _ _))

/-- No batch of a fill is empty (R167, D12). -/
theorem pos_of_mem_batchSizes {chunk n k : Nat} (h : k ∈ batchSizes chunk n) : 0 < k := by
  obtain hfull | hpartial := List.mem_append.mp h
  · obtain ⟨hcount, rfl⟩ := List.mem_replicate.mp hfull
    exact Nat.pos_of_ne_zero fun hzero => hcount (by rw [hzero, Nat.div_zero])
  · split at hpartial
    · next hpos => exact List.mem_singleton.mp hpartial ▸ hpos
    · cases hpartial

theorem framed_batch (color : U16) {n : Nat} (h : 0 < n) : Framed (batch color n) := by
  cases n with
  | zero => cases h
  | succ n => exact framed_txn_payload none (List.cons_ne_nil _ _)

theorem framed_expandFill (c : Cfg) (x y w h : Int) (color : U16) : Framed (expandFill c x y w h color) := by
  rw [expandFill, fillBatches_eq_flatMap]
  exact (framed_expandSetAddressWindow c _ _ _ _).append
    (.flatMap fun _ hn => framed_batch color (pos_of_mem_batchSizes hn))

theorem framed_expandBlit (c : Cfg) (x y w h : Int) {buffer : List Byte} (hne : buffer ≠ []) :
    Framed (expandBlit c x y w h buffer) :=
  (framed_expandSetAddressWindow c _ _ _ _).append (framed_txn_payload none hne)

theorem framed_expandDrawChar (c : Cfg) (code : Nat) (x y : Int) (color : U16) :
    Framed (expandDrawChar c code x y color) :=
  .flatMap fun _ _ => framed_expandDrawPixel c _ _ color

theorem framed_expandDrawText (c : Cfg) (y : Int) (color : U16) (cur : Int) (codes : List Nat) :
    Framed (expandDrawText c y color cur codes) := by
  induction codes generalizing cur with
  | nil => exact .nil
  | cons code codes ih => exact (framed_expandDrawChar c code cur y color).append (ih _)

theorem framed_expandHardReset : Framed expandHardReset := ⟨fun _ _ => ⟨_, _, rfl⟩, .inr ⟨_, rfl⟩⟩

theorem framed_expandSoftReset : Framed expandSoftReset := ⟨fun _ _ => ⟨_, _, rfl⟩, .inr ⟨_, rfl⟩⟩

theorem framed_expandInitialize (c : Cfg) : Framed (expandInitialize c) := by
  have hbefore : Framed (expandInitBefore c) := ⟨fun _ _ => ⟨_, _, rfl⟩, .inr ⟨_, rfl⟩⟩
  have hafter : Framed expandInitAfter := ⟨fun _ _ => ⟨_, _, rfl⟩, .inr ⟨_, rfl⟩⟩
  exact (hbefore.append (framed_expandFill c 0 0 c.width c.height c.initFillColor)).append hafter

/-- A buffer that passes the check of blitBuffer is not empty (R166, R170). -/
theorem pos_of_blitViolation {c : Cfg} {x y w h : Int} {length : Nat} (hv : blitViolation c x y w h length = none) :
    0 < length := by
  have hr := rectangleViolation_of_blitViolation hv
  obtain ⟨hw, hh, -⟩ : 1 ≤ w ∧ 1 ≤ h ∧ inWindow c x y (x + w - 1) (y + h - 1) = true := by
    simpa [rectangleViolation] using hr
  have hlength : (length : Int) = 2 * w * h := by simpa [blitViolation, hr] using hv
  have hpos : 0 < 2 * w * h := by positivity
  omega

theorem take_ne_nil {payload : List Byte} {n : Nat} (hn : 0 < n) (hp : n ≤ payload.length) :
    payload.take n ≠ [] := by
  refine List.ne_nil_of_length_pos ?_
  rwa [List.length_take, Nat.min_eq_left hp]

/-- A sendCommand is framed if it has an opcode or a payload (R121 to R124). -/
theorem framed_expandSendCommand {opcode : Option Byte} {plen : U32} {payload : List Byte}
    (hsome : opcode.isSome = true ∨ plen ≠ 0#32) (hp : plen.toNat ≤ payload.length) :
    Framed (expandSendCommand opcode plen payload) := by
  by_cases hzero : plen = 0#32
  · obtain ⟨op, rfl⟩ := Option.isSome_iff_exists.mp (hsome.resolve_right fun hne => hne hzero)
    rw [expandSendCommand, payloadArgument, if_pos hzero]
    exact framed_txn_command op
  · have hpos : 0 < plen.toNat := Nat.pos_of_ne_zero fun h => hzero (BitVec.eq_of_toNat_eq h)
    rw [expandSendCommand, payloadArgument, if_neg hzero]
    exact framed_txn_payload opcode (take_ne_nil hpos hp)

theorem ne_zero_of_sendCommandViolation {plen : U32} {l : Latches} (hv : sendCommandViolation none plen l = none) :
    plen ≠ 0#32 := by
  rintro rfl
  cases hv

theorem framed_expand {i : Instr} {c : Cfg} {l : Latches} {payload : List Byte} (hv : violation i c l = none)
    (hp : payloadNeeded i ≤ payload.length) : Framed (expand i c payload) := by
  cases i with
  | wireColumnAddressSet start stop => exact framed_txn_payload (some _) (List.cons_ne_nil _ _)
  | wireRowAddressSet start stop => exact framed_txn_payload (some _) (List.cons_ne_nil _ _)
  | wireMemoryAccessControl p => exact framed_txn_payload (some _) (List.cons_ne_nil _ _)
  | wireColorMode p => exact framed_txn_payload (some _) (List.cons_ne_nil _ _)
  | wirePixelUnit r g b => exact framed_txn_payload none (List.cons_ne_nil _ _)
  | sendCommandCmd opcode => exact framed_expandSendCommand (.inl rfl) (Nat.zero_le _)
  | sendCommandCmdData opcode plen => exact framed_expandSendCommand (.inl rfl) hp
  | sendCommandData plen => exact framed_expandSendCommand (.inr (ne_zero_of_sendCommandViolation hv)) hp
  | sendCommandNone => exact .nil
  | reserved op => exact .nil
  | setAddressWindow x0 y0 x1 y1 => exact framed_expandSetAddressWindow c _ _ _ _
  | drawPixel x y color => exact framed_expandDrawPixel c _ _ color
  | fillRectangle x y w h color => exact framed_expandFill c _ _ _ _ color
  | fillScreen color => exact framed_expandFill c _ _ _ _ color
  | blitBuffer x y w h plen => exact framed_expandBlit c _ _ _ _ (take_ne_nil (pos_of_blitViolation hv) hp)
  | hardReset => exact framed_expandHardReset
  | softReset => exact framed_expandSoftReset
  | setColorMode mode => exact framed_txn_payload (some _) (List.cons_ne_nil _ _)
  | setMemoryAccessMode orientation isBgr => exact framed_txn_payload (some _) (List.cons_ne_nil _ _)
  | initializePanel => exact framed_expandInitialize c
  | drawChar code x y color => exact framed_expandDrawChar c _ _ _ color
  | drawText plen x y color => exact framed_expandDrawText c _ color _ _
  | _ => exact framed_txn_command _

theorem framed_requestExpand {r : Request} {c : Cfg} {l : Latches} (hv : requestViolation r c l = none) :
    Framed (requestExpand r c) := by
  cases r with
  | sendCommand opcode p =>
    rcases opcode with - | op <;> rcases p with - | bytes
    · exact .nil
    · exact framed_txn_payload none (List.cons_ne_nil _ _)
    · exact framed_txn_command op
    · exact framed_txn_payload (some op) (List.cons_ne_nil _ _)
  | setAddressWindow x0 y0 x1 y1 => exact framed_expandSetAddressWindow c _ _ _ _
  | drawPixel x y color => exact framed_expandDrawPixel c _ _ color
  | fillRectangle x y w h color => exact framed_expandFill c _ _ _ _ color
  | fillScreen color => exact framed_expandFill c _ _ _ _ color
  | blitBuffer buffer x y w h =>
    exact framed_expandBlit c _ _ _ _ (List.ne_nil_of_length_pos (pos_of_blitViolation hv))
  | hardReset => exact framed_expandHardReset
  | softReset => exact framed_expandSoftReset
  | setColorMode mode => exact framed_txn_payload (some _) (List.cons_ne_nil _ _)
  | setMemoryAccessMode orientation isBgr => exact framed_txn_payload (some _) (List.cons_ne_nil _ _)
  | initializePanel => exact framed_expandInitialize c
  | drawChar code x y color => exact framed_expandDrawChar c _ _ _ color
  | drawText string x y color => exact framed_expandDrawText c _ color _ string
  | _ => exact framed_txn_command _

theorem framed_opExpand {op : Op} {c : Cfg} {l : Latches} {payload : List Byte} (hv : opViolation op c l = none)
    (hp : opPayloadNeeded op ≤ payload.length) : Framed (opExpand op c payload) := by
  cases op with
  | row i => exact framed_expand hv hp
  | call r => exact framed_requestExpand hv

/-! ## A run that completes (R28, R66) -/

/-- Only the completion returns the sequencer to IDLE, and then nothing has stopped the program. -/
theorem RunsTo.of_idle {g : Grain} {op op' : Op} {k : Nat} {ms : List Micro} {s t : State} (h : RunsTo g op ms s t)
    (hs : s.seq = .run op' k) (ht : t.seq = .idle) : ms.all (passes s.cfg) = true ∧ t = complete op (ranOn ms s) := by
  have hran (pre : List Micro) : (ranOn pre s).seq ≠ .idle := by
    simp [ranOn_seq pre hs]
  cases h with
  | completed _ hpass heq => exact ⟨hpass, heq⟩
  | stopped pre m post _ _ _ hstop => exact absurd ht ((perform_halt_pins hstop).2 (hran pre))
  | paused pre m post _ _ _ _ hgo =>
    obtain ⟨-, -, -, hseq⟩ := perform_go_pins hgo
    exact absurd ht (hseq (hran pre))

theorem awaitPayload_notMem_of_passes {c : Cfg} {ms : List Micro} (h : ms.all (passes c) = true) :
    .awaitPayload ∉ ms := fun hmem => Bool.noConfusion (List.all_eq_true.mp h _ hmem)

/-- With the payload supplied, the events of what is left of the program are all the rest of the expansion. -/
theorem StandsAt.programEvents_eq_drop {op : Op} {pre post : List Micro} {s : State} (hat : StandsAt op pre post s)
    (hwindow : WindowAt pre post s) (hp : opPayloadNeeded op ≤ s.payload.length) :
    programEvents s.cfg s.aw post = (opExpand op s.cfg s.payload).drop (eventCount pre) := by
  rw [← (emits_opProgram op s.cfg s.payload hp).events s.aw, hat.program, hwindow.programEvents_eq,
    ← programEvents_length s.cfg s.aw pre, List.drop_left]

/-- Settles O49: a run that completes has passed every step of the program, so that the payload was supplied and the
events are the expansion's, which is framed. -/
theorem completedOperationsAreWellFramed : Obligations.CompletedOperationsAreWellFramed := by
  refine ⟨fun op s t hcan hg hcs h ht => ?_, fun op k s t dc hseq hposition hwindow hpins hv h ht => ?_⟩
  · obtain ⟨hne, -⟩ | ⟨-, v, -, rfl⟩ | ⟨-, hv, rfl | hrun⟩ := execOp_cases h
    · exact absurd hcan.1 hne
    · cases ht
    · cases ht
    · obtain ⟨hpass, rfl⟩ := hrun.of_idle (begin_seq op s) ht
      have hp : opPayloadNeeded op ≤ s.payload.length := (waitsLast_opProgram op s.cfg s.payload).supplied_of_notMem
        (Nat.zero_le _) (by rw [afterEvents_zero]; exact awaitPayload_notMem_of_passes hpass)
      have hevents := (emits_opProgram op s.cfg s.payload hp).events s.aw
      have hframed := framed_opExpand hv hp
      refine ⟨?_, _, ?_, hframed.wellFramed_eq_true s.pinDc⟩
      · have hran := congrArg Pins.cs (pinsOf_ranOn (opProgram op s.cfg s.payload) (begin op s))
        exact hran.trans ((congrArg (fun es => (pinsAfter (pinsOf s) es).cs) hevents).trans
          (hframed.cs_pinsAfter fun _ => hcs))
      · exact (ranOn_trace _ (begin op s)).trans (congrArg (fun es => s.trace ++ done es) hevents)
  · have hk : k ≤ eventCount (opProgram op s.cfg s.payload) := by simpa [PositionInv, hseq] using hposition
    obtain rfl | hrun := runsTo_of_resume h
    · simp [hseq] at ht
    · obtain ⟨hpass, hcomplete⟩ := hrun.of_idle (s := settleWait s) hseq ht
      have hp : opPayloadNeeded op ≤ s.payload.length := (waitsLast_opProgram op s.cfg s.payload).supplied_of_notMem
        hk (awaitPayload_notMem_of_passes hpass)
      have hevents := (standsAt_of_le hseq hk).programEvents_eq_drop ((windowInv_iff hseq).mp hwindow) hp
      have hframed := framed_opExpand hv hp
      rw [eventCount_upToEvents hk] at hevents
      refine ⟨?_, hframed.wellFramed_eq_true dc, fun hne => ?_⟩
      · rw [hcomplete, complete_trace, ranOn_trace]
        exact congrArg (fun es => s.trace ++ done es) hevents
      · obtain ⟨p, hp⟩ := pinsOf_of_resume_complete hseq hpins hp h ht
        exact (congrArg Pins.cs hp).trans (hframed.cs_pinsAfter fun hnil => absurd hnil hne)

end Sys2Proof.Machine
end

section
/-! SUPPORT. That what AW, the work counters and the timer held before an operation has no effect on anything seen
(10_state.md R26, R29; 60_exceptions.md R232). -/

namespace Sys2Proof.Machine

/-! ## Micro steps that do not read AW (R26) -/

theorem emit_worked (e : Event) (s : State) (aw : AddressWindow) (valid : Bool) (work : Work) :
    emit e (worked s aw valid work) = (emit e s).map fun u => worked u aw valid work := by
  cases e with
  | tx bs =>
    have ht : (worked s aw valid work).transport = s.transport := rfl
    rcases h : s.transport with - | ⟨- | sent, rest⟩ <;> simp only [emit, ht, h] <;> rfl
  | _ => rfl

/-- What two micro steps lead to cannot be told apart: both go on, to states that agree but for AW, its bit and the
work counters, and agree on AW and its bit where `ms` reads them first; or both stop in states that are seen to be the
same. -/
inductive Alike (ms : List Micro) : Progress → Progress → Prop
  | go (s : State) (aw : AddressWindow) (valid : Bool) (work : Work)
      (h : readsWindowFirst ms = true → aw = s.aw ∧ valid = s.awValid) : Alike ms (.go (worked s aw valid work)) (.go s)
  | halt (s t : State) (h : observe t = observe s) : Alike ms (.halt t) (.halt s)
  | broken (f : Fault) : Alike ms (.broken f) (.broken f)

/-- An event is emitted whatever AW holds, and leaves it. -/
theorem alike_emit (e : Event) (s : State) (aw : AddressWindow) (valid : Bool) (work : Work) {ms : List Micro}
    (h : readsWindowFirst ms = true → aw = s.aw ∧ valid = s.awValid) :
    Alike ms (emit e (worked s aw valid work)) (emit e s) := by
  rw [emit_worked]
  obtain ⟨hgo, -⟩ | ⟨bs, sent, rest, -, -, hhalt⟩ := emit_cases e s
  · rw [hgo]
    exact .go _ _ _ _ (by simpa using h)
  · rw [hhalt]
    exact .halt _ _ rfl

theorem alike_emitPosition (a b : U16) (s : State) (work : Work) (ms : List Micro) :
    Alike ms (emitPosition a b (worked s s.aw s.awValid work)) (emitPosition a b s) := by
  obtain ⟨hvalid, heq⟩ | ⟨hvalid, heq⟩ := emitPosition_cases a b s
  · have hvalid' : (worked s s.aw s.awValid work).awValid = true := hvalid
    rw [heq, emitPosition, if_pos hvalid']
    exact alike_emit _ s _ _ work fun _ => ⟨rfl, rfl⟩
  · have hvalid' : (worked s s.aw s.awValid work).awValid ≠ true := by simp [worked, hvalid]
    rw [heq, emitPosition, if_neg hvalid']
    exact .broken _

/-- A window is opened whatever AW holds, and overwrites it. -/
theorem alike_openWindow (x0 y0 x1 y1 : Int) (s : State) (aw : AddressWindow) (valid : Bool) (work : Work)
    (ms : List Micro) : Alike ms (openWindow x0 y0 x1 y1 (worked s aw valid work)) (openWindow x0 y0 x1 y1 s) := by
  have hcfg : (worked s aw valid work).cfg = s.cfg := rfl
  cases hv : windowViolation s.cfg x0 y0 x1 y1 with
  | none =>
    simp only [openWindow, hcfg, hv]
    exact .go (writeWindow x0 y0 x1 y1 s) (windowLatches s.cfg x0 y0 x1 y1) true work fun _ => ⟨rfl, rfl⟩
  | some v =>
    simp only [openWindow, hcfg, hv]
    exact .halt _ _ rfl

theorem alike_perform {m : Micro} {ms : List Micro} (s : State) {aw : AddressWindow} {valid : Bool} (work : Work)
    (h : readsWindowFirst (m :: ms) = true → aw = s.aw ∧ valid = s.awValid) :
    Alike ms (perform m (worked s aw valid work)) (perform m s) := by
  cases m with
  | emit e => exact alike_emit e s aw valid work h
  | columnPayload =>
    obtain ⟨rfl, rfl⟩ := h rfl
    exact alike_emitPosition _ _ s work ms
  | rowPayload =>
    obtain ⟨rfl, rfl⟩ := h rfl
    exact alike_emitPosition _ _ s work ms
  | window x0 y0 x1 y1 => exact alike_openWindow x0 y0 x1 y1 s aw valid work ms
  | glyphPixel x y row col =>
    exact alike_openWindow _ _ _ _ (pixelReached row col s) aw valid { work with row := row, col := col } ms
  | remaining n => exact .go { s with work := { s.work with remaining := n } } aw valid _ h
  | cursor chari cur => exact .go { s with work := { s.work with chari := chari, cur := cur } } aw valid _ h
  | awaitPayload => exact .halt _ _ rfl

/-! ## Whole operations -/

/-- The run of a program that writes AW before it reads it is seen to be the same whatever AW and the work counters
held. -/
theorem observeResult_runMicros (op : Op) {ms : List Micro} (s : State) {aw : AddressWindow} {valid : Bool}
    (work : Work) (h : readsWindowFirst ms = true → aw = s.aw ∧ valid = s.awValid) :
    observeResult (runMicros op ms (worked s aw valid work)) = observeResult (runMicros op ms s) := by
  induction ms generalizing s aw valid work with
  | nil => rfl
  | cons m ms ih =>
    have halike := alike_perform s work h
    rw [runMicros, runMicros]
    generalize perform m (worked s aw valid work) = p at halike ⊢
    generalize perform m s = q at halike ⊢
    cases halike with
    | go s' aw' valid' work' h' => exact ih (settleWait s') work' h'
    | halt s' t' hobserve => exact congrArg some hobserve
    | broken f => rfl

/-- The state with other values in AW, in its bit, in the work counters and in the timer. -/
def relatched (s : State) (aw : AddressWindow) (valid : Bool) (work : Work) (timer : Nat) : State :=
  { s with aw := aw, awValid := valid, work := work, timer := timer }

section Relatched

variable (op : Op) {ms : List Micro} (hms : readsWindowFirst ms = false) (s : State) (aw : AddressWindow)
  (valid : Bool) (work : Work) (timer : Nat)
include hms

/-- The acceptance clears the bit of AW and the timer. -/
theorem observeResult_launch :
    observeResult (launch op ms (relatched s aw valid work timer)) = observeResult (launch op ms s) := by
  have hgrain : (relatched s aw valid work timer).grain = s.grain := rfl
  cases hg : s.grain with
  | operation =>
    have hread : readsWindowFirst ms = true → aw = (begin op s).aw ∧ false = (begin op s).awValid := by simp [hms]
    simp only [launch, hgrain, hg]
    exact observeResult_runMicros op (begin op s) work hread
  | event =>
    simp only [launch, hgrain, hg]
    rfl

theorem observeResult_accept (check : Option Violation) :
    observeResult (accept op check ms (relatched s aw valid work timer)) = observeResult (accept op check ms s) := by
  have hseq : (relatched s aw valid work timer).seq = s.seq := rfl
  have hcfg : (relatched s aw valid work timer).cfg = s.cfg := rfl
  by_cases hs : s.seq = .idle
  · cases hc : cfgLegal s.cfg with
    | false =>
      rw [accept_refuses_of_not_legal op check ms s hs hc,
        accept_refuses_of_not_legal op check ms (relatched s aw valid work timer) hs hc]
    | true =>
      cases check with
      | none =>
        simp only [accept, hseq, hcfg, hs, hc, if_true]
        exact observeResult_launch op hms s aw valid work timer
      | some v =>
        rw [accept_raises op v ms s ⟨hs, hc⟩, accept_raises op v ms (relatched s aw valid work timer) ⟨hs, hc⟩]
        rfl
  · rw [accept_of_not_idle op check ms s hs, accept_of_not_idle op check ms (relatched s aw valid work timer) hs]
    rfl

end Relatched

/-- Settles O52: the acceptance clears the bit of AW and the timer, and every program writes AW before it reads it;
the work counters are read by none. -/
theorem oldLatchesAreNeverSeen : Obligations.OldLatchesAreNeverSeen := by
  intro op s aw valid work timer
  rw [execOp_eq_accept, execOp_eq_accept]
  exact observeResult_accept op (readsWindowFirst_opProgram op s.cfg s.payload) s aw valid work timer _

end Sys2Proof.Machine
end
